-- ==== Sys2Proof/Word.lean ====
section
/-!
DEFINITION. The word type of the part: the memory bus, the shadow and the live area are made of bytes.
-/

namespace Sys2Proof

/-- One byte of the serial memory bus, of the shadow or of the live area (section 1.6 of 00_scope.md). -/
abbrev Byte := BitVec 8

end Sys2Proof
end

