-- ==== Sys2Proof/Syntax.lean ====
section
/-!
DEFINITION. The commands: one constructor for each row of spec/opcode_table.json. The table gives the rows no
operand fields, so each constructor carries what the row's own rules say arrives from outside with the event. The bytes and
bits of a host transaction arrive on two lines at once, SDI_U from the host and SDO_M from the memory.
-/

namespace Sys2Proof

/-- The four strap inputs as sampled at the end of a reset (R1); `true` is high. -/
structure Straps where
  wbs1 : Bool
  wbs0 : Bool
  msz1 : Bool
  msz0 : Bool
deriving DecidableEq, Repr

/-- One link character as the receiver takes it at its stop bit: data byte, mark bit and framing judgement (R83). -/
structure LinkChar where
  data : Byte
  mark : Bool
  framed : Bool
deriving DecidableEq, Repr

/-- A complete byte of a host transaction: what the host drives on SDI_U and the memory on SDO_M in its 8 clocks (R3). -/
structure BusByte where
  sdi : Byte
  sdo : Byte
deriving DecidableEq, Repr

/-- One clock of an incomplete byte: the levels of SDI_U and SDO_M (R3). -/
structure BusBit where
  sdi : Bool
  sdo : Bool
deriving DecidableEq, Repr

/-- The commands of spec/opcode_table.json, in the table's order. `more` are the complete bytes after a command byte, and `heard` is the
byte on SDO_M during it; left out, they are none and 0. -/
inductive Instr where
  /-- POWER_ON_RESET: supply is applied; the start of a power-on reset (R20). -/
  | powerOnReset
  /-- SUPPLY_RESET: the start of a supply reset (R20). -/
  | supplyReset
  /-- PIN_RESET: RESET# is asserted; the start of a pin reset (R20). -/
  | pinReset
  /-- RESET_END: the reset in progress ends with the straps at the given levels (R1, R21). -/
  | resetEnd (straps : Straps)
  /-- HOST_TRANSACTION_BEGIN: CS_U# falls (R3, R16). -/
  | hostTransactionBegin
  /-- WRITE_ENABLE: the command byte 06h completes (R7). -/
  | writeEnable (more : List BusByte := []) (heard : Byte := 0)
  /-- WRITE_DISABLE: the command byte 04h completes (R7). -/
  | writeDisable (more : List BusByte := []) (heard : Byte := 0)
  /-- READ_STATUS: the command byte 05h completes (R4). -/
  | readStatus (more : List BusByte) (heard : Byte := 0)
  /-- WRITE_STATUS: the command byte 01h completes, followed by complete data bytes (R8). -/
  | writeStatus (more : List BusByte) (heard : Byte := 0)
  /-- READ: the command byte 03h completes; the first three complete bytes after it are its address, and the others its data
  (R2, R14). -/
  | read (more : List BusByte) (heard : Byte)
  /-- WRITE: the command byte 02h completes, then the complete address bytes `addr` (at most 3) (R9). -/
  | write (addr : List BusByte) (heard : Byte := 0)
  /-- UNRECOGNISED_COMMAND: a command byte `first` with an unrecognised code completes (R12). -/
  | unrecognisedCommand (first : BusByte) (more : List BusByte)
  /-- LANDED_BYTE: a data byte of a WRITE completes (R9, R10). -/
  | landedByte (value : BusByte)
  /-- HOST_TRANSACTION_END: CS_U# rises; `bits` are the clocks after the last complete byte, an incomplete byte (R3, R7). -/
  | hostTransactionEnd (bits : List BusBit)
  /-- SEQUENCE_BUS_FREE: steps 3 to 5 of R17 run; the memory answers `status` to READ STATUS and `contents`, 3,328 bytes from
  the window base, to READ. -/
  | sequenceBusFree (status : Byte) (contents : List Byte)
  /-- SEQUENCE_END: step 6 of R17. -/
  | sequenceEnd
  /-- PLAN_CHECK_COMPLETION (R30). -/
  | planCheckCompletion
  /-- RUN_SECOND (R47). -/
  | runSecond
  /-- MINUTE_TICK (R49). -/
  | minuteTick
  /-- OVERRIDE_EXPIRY (R79). -/
  | overrideExpiry
  /-- SET_CLOCK: the request unit takes the request in slot (consumer count mod 16), of kind 1 (R64, R70). -/
  | setClock
  /-- ADD_OVERRIDE: the taking of a request of kind 2 (R71). -/
  | addOverride
  /-- CANCEL_OVERRIDE: the taking of a request of kind 3 (R72). -/
  | cancelOverride
  /-- CLEAR_LOCKOUT: the taking of a request of kind 4 (R73, R176). -/
  | clearLockout
  /-- RELOAD: the taking of a request of kind 5 (R66, R74). -/
  | reload
  /-- UNKNOWN_KIND: the taking of a request of any other kind (R69). -/
  | unknownKind
  /-- POLL_TIMER_EXPIRY (R86). -/
  | pollTimerExpiry
  /-- PIPE_UNIT_DUE (R97). -/
  | pipeUnitDue
  /-- ECHO_MISMATCH: during SENDING the controller receives the character `received` in place `place` of the request, counted from
  0, or, with no place, where it sent none (R87). Left out, the operands are a character where it sent none. -/
  | echoMismatch (place : Option Nat := none) (received : LinkChar := ⟨0, false, true⟩)
  /-- CONTENTION_PAUSE_END (R88). -/
  | contentionPauseEnd
  /-- NO_REPLY (R89). -/
  | noReply
  /-- REPLY_END: the reply ended, with the characters received since the request (R89). -/
  | replyEnd (chars : List LinkChar)
  /-- NOISE_CHARACTER (R103). -/
  | noiseCharacter
  /-- SAMPLE_EVENT: one millisecond; bit k of `levels` is the raw level of INk, 1 for HIGH (R106). -/
  | sampleEvent (levels : Byte)
  /-- DEBOUNCED_LEVEL_CHANGE of one input (R106). -/
  | debouncedLevelChange (input : Fin 8)
  /-- FLOW_LATE (R115). -/
  | flowLate
  /-- FLOW_NO_FLOW (R115). -/
  | flowNoFlow
  /-- CYCLE_START of one zone (R123). -/
  | cycleStart (zone : Fin 12)
  /-- END_EVENT of one zone (R142). -/
  | endEvent (zone : Fin 12)
  /-- WAITING_REQUEST_EXPIRY of one zone (R148). -/
  | waitingRequestExpiry (zone : Fin 12)
  /-- INRUSH_ENTRY_LEAVES the log of one supply group (R147). -/
  | inrushEntryLeaves (group : Fin 2)
  /-- MOVEMENT_END of one zone's valve (R151). -/
  | movementEnd (zone : Fin 12)
  /-- PRERUN_TIMER_EXPIRY (R167). -/
  | prerunTimerExpiry
  /-- POSTRUN_TIMER_EXPIRY (R171). -/
  | postrunTimerExpiry
  /-- LOCKOUT_PUMP_RUN_END (R174). -/
  | lockoutPumpRunEnd
  /-- RETRY_TIMER_EXPIRY (R173). -/
  | retryTimerExpiry
  /-- MIN_OFF_PASSING (R165). -/
  | minOffPassing
  /-- MIN_ON_PASSING (R169). -/
  | minOnPassing
  /-- IGNITION_ENTRY_LEAVES (R168). -/
  | ignitionEntryLeaves
  /-- FIRING_RUN_600S (R168). -/
  | firingRun600s
  /-- CYLINDER_TIMEOUT (R161). -/
  | cylinderTimeout
  /-- CYLINDER_BLOCK_EXPIRY (R161). -/
  | cylinderBlockExpiry
  /-- OUTDOOR_HOLD_EXPIRY (R178). -/
  | outdoorHoldExpiry
deriving DecidableEq, Repr

end Sys2Proof
end

