-- ==== Sys2Proof/Machine/State.lean ====
section
/-!
DEFINITION. The state of the controller as plain data: one structure for each block of section 1.4 of 00_scope.md, the
output pins, the queue of waiting commands, and the state right after a power-on reset.
-/

namespace Sys2Proof.Machine

/-! ## The memory path (01_the_memory_path.md) -/

/-- The latch mirror (R6). -/
inductive LatchMirror where
  | clear | set | unknown
deriving DecidableEq, Repr

/-- The protection mirror: a level 0 to 3 or UNKNOWN (R6). -/
inductive ProtMirror where
  | level (n : Fin 4)
  | unknown
deriving DecidableEq, Repr

/-- The state of the controller's own bus sequence (R17). -/
inductive SeqState where
  | idle | waiting | running
deriving DecidableEq, Repr

/-- The class of a host transaction (R4, R189). -/
inductive CmdClass where
  | writeEnable | writeDisable | readStatus | writeStatus | read | write | unrecognised
deriving DecidableEq, Repr

/-- What the controller keeps of a tracked host transaction (R3, R4, R9): its class once the command byte is complete,
the SCK_U clocks counted so far, whether the latch mirror was SET at the command byte, the address of a READ or a WRITE once its third
byte is complete, and the position of the next data byte. -/
structure Tracked where
  cls : Option CmdClass
  clocks : Nat
  latchWasSet : Bool
  addr : Option Nat
  pos : Nat
deriving DecidableEq, Repr

/-- The host side of the bus: CS_U# high, or a transaction that is held (R16), untracked (R5) or tracked (R3). -/
inductive Transaction where
  | idle
  | held
  | untracked
  | tracked (t : Tracked)
deriving DecidableEq, Repr

/-- The three kinds of reset of section 1.7 of 00_scope.md. -/
inductive ResetKind where
  | power | supply | pin
deriving DecidableEq, Repr

/-- What one line of the bus has carried in a transaction: its complete bytes, and the bits after them (assumption 48). -/
structure LineRecord where
  bytes : List Byte
  bits : List Bool
deriving DecidableEq, Repr

/-- A line at the start of a transaction. -/
def LineRecord.empty : LineRecord := ⟨[], []⟩

/-- The clocks in which a line has carried what it carried. -/
def LineRecord.clocks (l : LineRecord) : Nat := 8 * l.bytes.length + l.bits.length

/-- A transaction of the controller's own: the command and address bytes on SDI_M, and the SCK_M clocks in all (assumption 48). -/
structure OwnTransaction where
  sent : List Byte
  clocks : Nat
deriving DecidableEq, Repr

/-- The memory path. `wire` is what SDI_M carries, and so each SCK_M clock, of the forwarded host transaction in progress, or the last
(R3), and `own` are the controller's own transactions of its last load or reload (R17). `reload` says whether the sequence in progress
is a reload; `sdoU` is what SDO_U carries in the host transaction in progress, or the last (R3, R14, R16); `inReset` is the reset in
progress, of the kind R21 gives an overlap. -/
structure MemoryPath where
  size : Nat
  base : Nat
  latch : LatchMirror
  prot : ProtMirror
  doubt : Bool
  heldCount : Nat
  busy : Bool
  image : Option (List Byte)
  seq : SeqState
  reload : Bool
  txn : Transaction
  sdoU : LineRecord
  wire : LineRecord
  own : List OwnTransaction
  inReset : Option ResetKind
  cause : ResetKind
deriving DecidableEq, Repr

/-! ## The plan (02_the_heating_plan.md, 11_record_layouts.md) -/

/-- A zone's kind byte (R25, R190); an unlisted code is kept as stored. -/
inductive ZoneKind where
  | room | cylinder
  | other (code : Nat)
deriving DecidableEq, Repr

/-- An input's role byte (R26, R190). -/
inductive InputRole where
  | none | window | flowPulse | boilerFault | supplyLow
  | other (code : Nat)
deriving DecidableEq, Repr

/-- An input's active level byte (R26, R190). -/
inductive ActiveLevel where
  | low | high
  | other (code : Nat)
deriving DecidableEq, Repr

/-- An input's edge select byte (R26, R190). -/
inductive EdgeSelect where
  | none | rising | falling | both
  | other (code : Nat)
deriving DecidableEq, Repr

/-- A sensor entry's role byte (R27, R190). -/
inductive SensorRole where
  | room | outdoor | pipe | cylinder
  | other (code : Nat)
deriving DecidableEq, Repr

/-- The header (R24). Index fields hold 255 for none. -/
structure Header where
  magic0 : Nat
  magic1 : Nat
  version : Nat
  generation : Byte
  bypass : Bool
  cylPathForFrost : Bool
  frostPriority : Nat
  cylPriority : Nat
  heatPriority : Nat
  pipeIndex : Nat
  outdoorIndex : Nat
  defaultOutdoor : Int
  slope : Nat
  shift : Int
  flowMin : Nat
  flowMax : Nat
  dshift : Nat
  callThreshold : Nat
  overheat : Nat
  bandLow : Nat
  bandMid : Nat
  cap1Flow : Nat
  cylFlow : Nat
  ignMax : Nat
  minOn : Nat
  minOff : Nat
  prerun : Nat
  postrun : Nat
  cylMax : Nat
  cylBlock : Nat
  flowIndex : Nat
  flowTimeout : Nat
deriving DecidableEq, Repr

/-- A zone record (R25); `week` lists the day profile index of Monday to Sunday. -/
structure ZoneRec where
  enabled : Bool
  kind : ZoneKind
  sensor : Nat
  mask : BitVec 16
  priority : Nat
  frostSp : Nat
  ecoSp : Nat
  comfortSp : Nat
  comfortPlusSp : Nat
  kp : Nat
  ki : Nat
  deadband : Nat
  openTime : Nat
  closeTime : Nat
  minOn : Nat
  fallback : Nat
  hysteresis : Nat
  windowMask : BitVec 8
  week : Vector Nat 7
deriving DecidableEq, Repr

/-- A supply group record (R26). -/
structure GroupRec where
  maxEnergised : Nat
  inrushMax : Nat
  inrushWindow : Nat
deriving DecidableEq, Repr

/-- An input entry (R26). -/
structure InputRec where
  role : InputRole
  active : ActiveLevel
  edge : EdgeSelect
  debounce : Nat
  group : Nat
deriving DecidableEq, Repr

/-- A sensor entry (R27). -/
structure SensorRec where
  enabled : Bool
  address : Nat
  role : SensorRole
  offset : Int
deriving DecidableEq, Repr

/-- A switch point: a minute of the day and a level number (R28). -/
structure SwitchPoint where
  minute : Nat
  level : Nat
deriving DecidableEq, Repr

/-- A day profile: its count and its 8 switch point places (R28). -/
structure DayProfile where
  count : Nat
  places : Vector SwitchPoint 8
deriving DecidableEq, Repr

/-- One copy of the plan area, record by record (section 2.1 of 02_the_heating_plan.md). -/
structure Plan where
  header : Header
  zones : Vector ZoneRec 12
  groups : Vector GroupRec 2
  inputs : Vector InputRec 8
  sensors : Vector SensorRec 16
  profiles : Vector DayProfile 64
deriving DecidableEq, Repr

/-- The check state (R29, R30). -/
inductive CheckState where
  | idle | running | stale
deriving DecidableEq, Repr

/-- The refusal codes, in the order of R32's table. -/
inductive RefusalCode where
  | magic | version | code | priority | bands | profile | zoneSensor | outputShared | outputMask | cylinderOutputs
  | cylinderCount | sensorAddress | noPipe | flowInput | outdoor
deriving DecidableEq, Repr

/-- The last check result (R33, R34). -/
inductive CheckResult where
  | none | adopted
  | refused (why : RefusalCode)
deriving DecidableEq, Repr

/-- The plan store. The shadow is kept as the list of its nonzero bytes, by window offset, strictly rising. -/
structure PlanStore where
  shadow : List Host.Cell
  active : Option Plan
  check : CheckState
  lastResult : CheckResult
  lastOffset : Nat
  pendingEdits : Bool
  clampCount : Nat
  firstClamp : Nat
  restarts : Nat
deriving DecidableEq, Repr

/-! ## Clock and schedule (03_clock_and_schedule.md) -/

/-- The schedule levels. -/
inductive Level where
  | frost | eco | comfort | comfortPlus
deriving DecidableEq, Repr

/-- The clock and schedule unit. The last five fields are the model's own (assumption 3): a `…Due` field holds an event that the
run second just taken has raised and that its command has not taken yet, and an `…Ahead` field that the schedule unit or the
override list has taken the minute tick of the coming run second before that run second advances the clock (R50). -/
structure ClockUnit where
  runSeconds : Nat
  tickCounter : Nat
  day : Nat
  minute : Nat
  second : Nat
  valid : Bool
  level : Vector (Option Level) 12
  target : Vector Int 12
  tickDue : Bool
  ageDue : Bool
  cycleDue : Bool
  tickAhead : Bool
  ageAhead : Bool
deriving DecidableEq, Repr

/-! ## Requests and overrides (04_requests_and_overrides.md) -/

/-- The result statuses of R65. -/
inductive Status where
  | none | done | badKind | badParam | full | notFound | tooHot | noPlan
deriving DecidableEq, Repr

/-- One result table entry (R65). -/
structure ResultEntry where
  tag : Byte
  status : Status
  detail : Nat
  seq : Byte
deriving DecidableEq, Repr

/-- The RELOAD request in flight: its count and its tag (R61, R66). -/
structure InFlight where
  count : Byte
  tag : Byte
deriving DecidableEq, Repr

/-- The request unit. -/
structure RequestUnit where
  synced : Bool
  producer : Byte
  consumer : Byte
  inFlight : Option InFlight
  results : Vector ResultEntry 16
  overrun : Nat
deriving DecidableEq, Repr

/-- The mode and value of an override entry (R75). -/
inductive OverrideValue where
  | level (l : Level)
  | setpoint (half : Nat)
deriving DecidableEq, Repr

/-- One override entry (R75); bit n of the mask names zone n. -/
structure OverrideEntry where
  id : Nat
  mask : BitVec 12
  priority : Nat
  value : OverrideValue
  remaining : Nat
deriving DecidableEq, Repr

/-- The override list, oldest entry first. -/
structure OverrideList where
  entries : List OverrideEntry
  lastId : Nat
deriving DecidableEq, Repr

/-! ## The sensor link (05_the_sensor_link.md) -/

/-- The sensor states (R92). -/
inductive SensorState where
  | off | searching | online | stale | lost
deriving DecidableEq, Repr

/-- One entry of the sensor table state. -/
structure SensorEntry where
  state : SensorState
  misses : Nat
  held : Option Int
  readTime : Option Nat
  faultFlag : Bool
  supplyFlag : Bool
  typeFault : Bool
  lastBand : Nat
  reportCounter : Nat
  successes : Nat
  failures : Nat
deriving DecidableEq, Repr

/-- The link states (R86). -/
inductive LinkState where
  | inactive | idle | busy | paused
deriving DecidableEq, Repr

/-- The commands of R84. -/
inductive LinkCommand where
  | sample | report | limits
deriving DecidableEq, Repr

/-- One character of a request frame as the controller sends it: data byte and mark bit (R84). -/
structure SentChar where
  data : Byte
  mark : Bool
deriving DecidableEq, Repr

/-- The transaction in progress: the entry addressed, its command, the characters of the request frame, whether the second
attempt is under way, whether an adoption has made the entry SEARCHING or OFF since its start (R40), whether the LIMITS
mark has been set since its start (R40, R100, R101), and the millisecond at which the attempt under way began (R86). -/
structure LinkTransaction where
  entry : Fin 16
  command : LinkCommand
  frame : List SentChar
  second : Bool
  dropped : Bool
  markedSince : Bool
  started : Nat
deriving DecidableEq, Repr

/-- The sensor link controller. `pollExpiry` is none once the poll timer has expired; link times are in milliseconds. -/
structure Link where
  state : LinkState
  pollExpiry : Option Nat
  pauseEnds : Nat
  pipeLast : Option Nat
  rotation : Fin 16
  contentions : Nat
  limitsMark : Bool
  noise : Nat
  txn : Option LinkTransaction
  entries : Vector SensorEntry 16
deriving DecidableEq, Repr

/-! ## Inputs and flow capture (06_inputs_and_flow_capture.md) -/

/-- The state of one input; levels are `true` for HIGH. -/
structure InputPin where
  raw : Bool
  debounced : Bool
  pending : Option Nat
  active : Bool
  edges : BitVec 16
deriving DecidableEq, Repr

/-- The flow states as last handed to the heat source (R115). -/
structure FlowStates where
  late : Bool
  noFlow : Bool
  established : Bool
deriving DecidableEq, Repr

/-- The input unit. `time` counts sample events (assumption 4): it is the millisecond time base of the debounce and of
the sensor link. -/
structure InputUnit where
  time : Nat
  pins : Vector InputPin 8
  windowOpen : Vector Bool 12
  windowEvents : Vector Nat 12
  boilerFault : Bool
  supplyLow : Vector Bool 2
  capture : Nat
  period : Nat
  pulses : Nat
  watch : Nat
  flow : FlowStates
deriving DecidableEq, Repr

/-! ## Zone regulation (07_zone_regulation.md) -/

/-- The zone modes (R118). -/
inductive ZoneMode where
  | disabled | running | window | fallback
deriving DecidableEq, Repr

/-- What the zone regulator holds for one zone. -/
structure ZoneReg where
  mode : ZoneMode
  measured : Option Int
  integral : Nat
  demand : Nat
  onTime : Nat
  allowance : Nat
  starved : Bool
  call : Bool
  latch : Bool
deriving DecidableEq, Repr

/-! ## Actuator drive (08_actuator_drive.md) -/

/-- The request states (R140). -/
inductive RequestState where
  | idle | waiting | energised
deriving DecidableEq, Repr

/-- A requested end: none, a run second, or "to cycle end" (R140). -/
inductive RequestedEnd where
  | none
  | at (t : Nat)
  | toCycleEnd
deriving DecidableEq, Repr

/-- The valve states (R151). -/
inductive ValveState where
  | closed | opening | open | closing
deriving DecidableEq, Repr

/-- What the actuator driver holds for one zone; a last grant time of none is "never granted". -/
structure ZoneDrive where
  request : RequestState
  cycleStart : Option Nat
  reqEnd : RequestedEnd
  lastGrant : Option Nat
  valve : ValveState
  moveStart : Nat
  moveEnd : Nat
  energisedSince : Nat
  energisedTime : Nat
deriving DecidableEq, Repr

/-- What the actuator driver holds for one supply group: the wait list, head first, and the inrush log, oldest first. -/
structure SupplyGroup where
  waitList : List (Fin 12)
  inrush : List Nat
deriving DecidableEq, Repr

/-! ## Heat source (09_heat_source.md) -/

/-- The heat-source states (R164). -/
inductive HeatState where
  | off | held | prerun | firing | postrun | lockout
deriving DecidableEq, Repr

/-- The services (R156, R157). -/
inductive Service where
  | frost | cylinder | heating
deriving DecidableEq, Repr

/-- The hold reasons (R165). -/
inductive HoldReason where
  | none | minOff | ignLimit | cap2 | noPath | noPipe
deriving DecidableEq, Repr

/-- The lockout causes (R172). -/
inductive LockoutCause where
  | none | noFlow | overheat | boiler
deriving DecidableEq, Repr

/-- The cap levels (R177). -/
inductive CapLevel where
  | cap0 | cap1 | cap2
deriving DecidableEq, Repr

/-- The heat source controller. A timer is none while it is not running, and else holds the run second of its expiry;
`outdoorHold` holds the run second at which the outdoor unit entered LOST. -/
structure HeatSource where
  state : HeatState
  frostCall : Bool
  inService : List Service
  hold : HoldReason
  cause : LockoutCause
  boilerNoted : Bool
  retryCount : Nat
  ignitions : List Nat
  lastStop : Nat
  burnerStart : Nat
  prerunExpiry : Option Nat
  postrunExpiry : Option Nat
  pumpRunExpiry : Option Nat
  retryExpiry : Option Nat
  cap : CapLevel
  cylTimer : Nat
  cylBlock : Option Nat
  outdoorHold : Option Nat
  flowTarget : Int
  duty : Nat
  div : Bool
deriving DecidableEq, Repr

/-! ## Fault list (10_fault_list_and_attention.md) -/

/-- The fault codes, in the order of R185 and R192. -/
inductive FaultCode where
  | sensorLost | sensorType | zoneFallback | linkContention | noFlow | overheat | boilerFault | cylTimeout
  | planRefused | mirrorDoubt | ringOverrun | supplyLow | clockInvalid | noPlan
deriving DecidableEq, Repr

/-- One fault entry (R182); its kind is fixed by its code. A subject of 255 is none. -/
structure FaultEntry where
  code : FaultCode
  subject : Nat
  count : Nat
deriving DecidableEq, Repr

/-- One change that an event hands to the fault list: a condition arises (R183) or ends (R184). -/
inductive FaultNews where
  | arises (code : FaultCode) (subject : Nat)
  | ends (code : FaultCode) (subject : Nat)
deriving DecidableEq, Repr

/-- The fault list. `handed` is the model's own: the changes handed by the event under way, which the list takes together at
the event's completion (R185); it is empty between commands. -/
structure FaultUnit where
  entries : List FaultEntry
  overflow : Nat
  attention : Byte
  ack : Byte
  handed : List FaultNews
deriving DecidableEq, Repr

/-! ## Output pins -/

/-- The output pins as driven after the last command: BUSY# and ATTN# (`true` is asserted, that is low), ACT0 to ACT15 (bit n
is ACTn), BURN, PUMP, DIV and FTO; `sdoOnes` says that the controller itself holds SDO_U at ones, for every bit (R16), and
`csM` that CS_M# is asserted, that is low (R3, R16, R17). -/
structure Pins where
  busy : Bool
  attn : Bool
  act : BitVec 16
  burn : Bool
  pump : Bool
  div : Bool
  fto : Nat
  sdoOnes : Bool
  csM : Bool
deriving DecidableEq, Repr

/-! ## The machine -/

/-- The state of the controller, and the commands that wait, first in, first out. -/
structure State where
  mem : MemoryPath
  plan : PlanStore
  clk : ClockUnit
  req : RequestUnit
  ovr : OverrideList
  link : Link
  inp : InputUnit
  reg : Vector ZoneReg 12
  drv : Vector ZoneDrive 12
  grp : Vector SupplyGroup 2
  heat : HeatSource
  faults : FaultUnit
  pins : Pins
  pending : List Instr
deriving DecidableEq, Repr

/-- The reasons the machine stops with a fault: none. No rule of the spec stops the controller, and every command that the
rules give an effect answers a next state, so no meaning raises one. -/
inductive Fault where
deriving DecidableEq, Repr

/-- The reasons a command has no meaning in the model. -/
inductive Refusal where
  /-- Raised by an arm of `exec` whose command has no meaning yet; safe. No arm raises it. -/
  | notModelled (mnemonic : String)
deriving DecidableEq, Repr

/-! ## Reset values -/

/-- The plan store after every kind of reset (R46); the shadow lists nothing until load step 5 (assumption 9). -/
def PlanStore.afterReset : PlanStore where
  shadow := []
  active := none
  check := .idle
  lastResult := .none
  lastOffset := 0xFFFF
  pendingEdits := false
  clampCount := 0
  firstClamp := 0xFFFF
  restarts := 0

/-- The clock and schedule unit after a power-on or supply reset (R60). -/
def ClockUnit.afterPowerOn : ClockUnit where
  runSeconds := 0
  tickCounter := 0
  day := 0
  minute := 0
  second := 0
  valid := false
  level := Vector.replicate 12 none
  target := Vector.replicate 12 0
  tickDue := false
  ageDue := false
  cycleDue := false
  tickAhead := false
  ageAhead := false

/-- The request unit after every kind of reset (R68). -/
def RequestUnit.afterReset : RequestUnit where
  synced := false
  producer := 0
  consumer := 0
  inFlight := none
  results := Vector.replicate 16 ⟨0, .none, 0, 0⟩
  overrun := 0

/-- The override list after every kind of reset (R82). -/
def OverrideList.afterReset : OverrideList where
  entries := []
  lastId := 0

/-- A sensor entry after every kind of reset (R105). -/
def SensorEntry.afterReset : SensorEntry where
  state := .off
  misses := 0
  held := none
  readTime := none
  faultFlag := false
  supplyFlag := false
  typeFault := false
  lastBand := 0
  reportCounter := 0
  successes := 0
  failures := 0

/-- The sensor link controller after every kind of reset (R105). -/
def Link.afterReset : Link where
  state := .inactive
  pollExpiry := none
  pauseEnds := 0
  pipeLast := none
  rotation := 0
  contentions := 0
  limitsMark := false
  noise := 0
  txn := none
  entries := Vector.replicate 16 SensorEntry.afterReset

/-- The input unit after every kind of reset (R117). R117 gives the raw and debounced levels from the first sample event and
the watch limit from the first adoption; until then they hold LOW and 0 (assumption 8). -/
def InputUnit.afterReset : InputUnit where
  time := 0
  pins := Vector.replicate 8 ⟨false, false, none, false, 0⟩
  windowOpen := Vector.replicate 12 false
  windowEvents := Vector.replicate 12 0
  boilerFault := false
  supplyLow := Vector.replicate 2 false
  capture := 0
  period := 0
  pulses := 0
  watch := 0
  flow := ⟨false, false, false⟩

/-- One zone of the zone regulator after every kind of reset (R138). -/
def ZoneReg.afterReset : ZoneReg where
  mode := .disabled
  measured := none
  integral := 0
  demand := 0
  onTime := 0
  allowance := 0
  starved := false
  call := false
  latch := false

/-- One zone of the actuator driver after every kind of reset (R155); the times of movements and energisations that
are not under way hold 0 (assumption 8). -/
def ZoneDrive.afterReset : ZoneDrive where
  request := .idle
  cycleStart := none
  reqEnd := .none
  lastGrant := none
  valve := .closed
  moveStart := 0
  moveEnd := 0
  energisedSince := 0
  energisedTime := 0

/-- The heat source controller after a power-on or supply reset (R181); the burner start time holds 0 (assumption 8). -/
def HeatSource.afterPowerOn : HeatSource where
  state := .off
  frostCall := false
  inService := []
  hold := .none
  cause := .none
  boilerNoted := false
  retryCount := 0
  ignitions := []
  lastStop := 0
  burnerStart := 0
  prerunExpiry := none
  postrunExpiry := none
  pumpRunExpiry := none
  retryExpiry := none
  cap := .cap0
  cylTimer := 0
  cylBlock := none
  outdoorHold := none
  flowTarget := 0
  duty := 0
  div := false

/-- The fault list at the start of every kind of reset (R188). -/
def FaultUnit.afterReset : FaultUnit where
  entries := []
  overflow := 0
  attention := 1
  ack := 0
  handed := []

/-- The machine right after a power-on reset has ended (R20, R21, R46, R51, R60, R68, R82, R105, R117, R138, R155, R181, R188):
the load waits for the bus with BUSY# asserted, and CLOCK_INVALID has been reported. The straps were sampled low and no host
transaction is in progress (assumption 7). -/
def State.reset : State where
  mem := {
    size := 0x8000
    base := 0
    latch := .unknown
    prot := .unknown
    doubt := false
    heldCount := 0
    busy := true
    image := none
    seq := .waiting
    reload := false
    txn := .idle
    sdoU := LineRecord.empty
    wire := LineRecord.empty
    own := []
    inReset := none
    cause := .power }
  plan := PlanStore.afterReset
  clk := ClockUnit.afterPowerOn
  req := RequestUnit.afterReset
  ovr := OverrideList.afterReset
  link := Link.afterReset
  inp := InputUnit.afterReset
  reg := Vector.replicate 12 ZoneReg.afterReset
  drv := Vector.replicate 12 ZoneDrive.afterReset
  grp := Vector.replicate 2 ⟨[], []⟩
  heat := HeatSource.afterPowerOn
  faults := { FaultUnit.afterReset with entries := [⟨.clockInvalid, 255, 1⟩], attention := 2 }
  pins := { busy := true, attn := true, act := 0, burn := false, pump := false, div := false, fto := 0, sdoOnes := false,
            csM := false }
  pending := []

end Sys2Proof.Machine
end

