-- ==== Sys2Proof/Machine/Ops.lean ====
section
/-!
DEFINITION. The operations shared by every block: block updates, per-index updates, counts and clamps, the shadow as an
addressed buffer, what a block hands to the fault list, and the attention number.
-/

namespace Sys2Proof.Machine

/-! ## Block updates -/

/-- Replace the memory path. -/
def State.setMem (s : State) (m : MemoryPath) : State := { s with mem := m }
/-- Replace the plan store. -/
def State.setPlan (s : State) (p : PlanStore) : State := { s with plan := p }
/-- Replace the clock and schedule unit. -/
def State.setClk (s : State) (c : ClockUnit) : State := { s with clk := c }
/-- Replace the request unit. -/
def State.setReq (s : State) (r : RequestUnit) : State := { s with req := r }
/-- Replace the override list. -/
def State.setOvr (s : State) (o : OverrideList) : State := { s with ovr := o }
/-- Replace the sensor link controller. -/
def State.setLink (s : State) (l : Link) : State := { s with link := l }
/-- Replace the input unit. -/
def State.setInp (s : State) (i : InputUnit) : State := { s with inp := i }
/-- Replace the zone regulator's zones. -/
def State.setReg (s : State) (r : Vector ZoneReg 12) : State := { s with reg := r }
/-- Replace the actuator driver's zones. -/
def State.setDrv (s : State) (d : Vector ZoneDrive 12) : State := { s with drv := d }
/-- Replace the actuator driver's supply groups. -/
def State.setGrp (s : State) (g : Vector SupplyGroup 2) : State := { s with grp := g }
/-- Replace the heat source controller. -/
def State.setHeat (s : State) (h : HeatSource) : State := { s with heat := h }
/-- Replace the fault list. -/
def State.setFaults (s : State) (f : FaultUnit) : State := { s with faults := f }
/-- Replace the output pins. -/
def State.setPins (s : State) (p : Pins) : State := { s with pins := p }
/-- Replace the queue of waiting commands. -/
def State.setPending (s : State) (q : List Instr) : State := { s with pending := q }

/-- Update one place of a vector. -/
def updAt {α : Type} {n : Nat} (v : Vector α n) (i : Fin n) (f : α → α) : Vector α n :=
  v.set i.val (f v[i])

/-- Build a vector from its places. -/
def tabulate {α : Type} {n : Nat} (f : Fin n → α) : Vector α n :=
  Vector.ofFn f

/-- Update one zone of the zone regulator. -/
def State.updReg (s : State) (z : Fin 12) (f : ZoneReg → ZoneReg) : State := s.setReg (updAt s.reg z f)
/-- Update one zone of the actuator driver. -/
def State.updDrv (s : State) (z : Fin 12) (f : ZoneDrive → ZoneDrive) : State := s.setDrv (updAt s.drv z f)
/-- Update one supply group of the actuator driver. -/
def State.updGrp (s : State) (g : Fin 2) (f : SupplyGroup → SupplyGroup) : State := s.setGrp (updAt s.grp g f)
/-- Update one entry of the sensor table state. -/
def State.updEntry (s : State) (e : Fin 16) (f : SensorEntry → SensorEntry) : State :=
  s.setLink { s.link with entries := updAt s.link.entries e f }

/-- The zones in ascending order. -/
def allZones : List (Fin 12) := [0, 1, 2, 3, 4, 5, 6, 7, 8, 9, 10, 11]
/-- The sensor entries in ascending order. -/
def allEntries : List (Fin 16) := [0, 1, 2, 3, 4, 5, 6, 7, 8, 9, 10, 11, 12, 13, 14, 15]
/-- The inputs in ascending order. -/
def allInputs : List (Fin 8) := [0, 1, 2, 3, 4, 5, 6, 7]
/-- The supply groups in ascending order. -/
def allGroups : List (Fin 2) := [0, 1]

/-! ## Counts and clamps -/

/-- A count saturating at `limit` rises by 1 (section 3.7 of 00_scope.md). -/
def satInc (limit n : Nat) : Nat := if n < limit then n + 1 else n

/-- clamp(x, a, b) of section 3.4 of 00_scope.md, on integers. -/
def clampInt (x a b : Int) : Int := if x < a then a else if b < x then b else x

/-- clamp(x, a, b) on naturals. -/
def clampNat (x a b : Nat) : Nat := if x < a then a else if b < x then b else x

/-! ## Bytes -/

/-- An unsigned 16-bit little-endian field (section 3.2 of 00_scope.md). -/
def le16 (lo hi : Nat) : Nat := lo + 256 * hi

/-- A signed byte in two's complement (R190). -/
def signed8 (n : Nat) : Int := if n < 128 then (n : Int) else (n : Int) - 256

/-- A signed 16-bit value in two's complement. -/
def signed16 (n : Nat) : Int := if n < 32768 then (n : Int) else (n : Int) - 65536

/-- The low byte of a number. -/
def byteOf (n : Nat) : Byte := BitVec.ofNat 8 n

/-- The two bytes of a 16-bit field, low byte first. -/
def bytes16 (n : Nat) : List Byte := [byteOf n, byteOf (n / 256)]

/-- The four bytes of a 32-bit field, low byte first. -/
def bytes32 (n : Nat) : List Byte := [byteOf n, byteOf (n / 256), byteOf (n / 65536), byteOf (n / 16777216)]

/-- The two bytes of a signed 16-bit field. -/
def bytesTemp (t : Int) : List Byte := bytes16 (t % 65536).toNat

/-- A flag byte: 0 for clear and 1 for set (R192). -/
def flagByte (b : Bool) : Byte := if b then 1 else 0

/-! ## The shadow as an addressed buffer

The shadow holds 3,328 bytes. It is kept as the list of its nonzero bytes by window offset, strictly rising; an
unlisted offset reads 0 (assumption 9). -/

/-- The byte of the shadow at a window offset. -/
def Shadow.read : List Host.Cell → Nat → Byte
  | [], _ => 0
  | c :: rest, a => if c.1 = a then c.2 else Shadow.read rest a

/-- Write one byte, keeping the canonical form. -/
def Shadow.write : List Host.Cell → Nat → Byte → List Host.Cell
  | [], a, v => if v = 0 then [] else [(a, v)]
  | c :: rest, a, v =>
    if a < c.1 then (if v = 0 then c :: rest else (a, v) :: c :: rest)
    else if a = c.1 then (if v = 0 then rest else (a, v) :: rest)
    else c :: Shadow.write rest a v

/-- The canonical list of consecutive bytes from an offset on (load step 5 of R17). -/
def Shadow.ofBytes : Nat → List Byte → List Host.Cell
  | _, [] => []
  | a, b :: rest => if b = 0 then Shadow.ofBytes (a + 1) rest else (a, b) :: Shadow.ofBytes (a + 1) rest

/-- The canonical form: offsets strictly rising from `lo` and below 0x0D00, and no listed zero. -/
def Shadow.wfFrom : Nat → List Host.Cell → Bool
  | _, [] => true
  | lo, c :: rest => lo ≤ c.1 && c.1 < 0x0D00 && c.2 != 0 && Shadow.wfFrom (c.1 + 1) rest

/-- The canonical form of a shadow. -/
def Shadow.wf (m : List Host.Cell) : Bool := Shadow.wfFrom 0 m

/-! ## What a block hands to the fault list -/

/-- A block hands one change to the fault list; the list takes the changes of the whole event together (R185). -/
def handNews (n : FaultNews) (s : State) : State :=
  s.setFaults { s.faults with handed := s.faults.handed ++ [n] }

/-- A block reports that a condition has arisen (R183). -/
def report (code : FaultCode) (subject : Nat) (s : State) : State := handNews (.arises code subject) s

/-- A block reports that a condition has ended (R184). -/
def reportEnd (code : FaultCode) (subject : Nat) (s : State) : State := handNews (.ends code subject) s

/-- The subject of a code of kind NONE (R182). -/
def noSubject : Nat := 255

/-- The attention number rises by 1, modulo 256 (R186). -/
def raiseAttention (s : State) : State :=
  s.setFaults { s.faults with attention := s.faults.attention + 1 }

/-- Replace the heat call of one zone. -/
def setCall (z : Fin 12) (c : Bool) (s : State) : State := s.updReg z fun r => { r with call := c }

end Sys2Proof.Machine
end

