-- ==== Sys2Proof/Machine/Operands.lean ====
section
/-!
DEFINITION. What the commands and blocks read: the fields of the active plan by their meaning, the parameters of the request
in the ring slot, and the fields of a reply.
-/

namespace Sys2Proof.Machine

/-! ## Plan fields -/

/-- The pipe unit: the entry named by the header's pipe sensor index, where it is enabled and of role PIPE (R32, R97). -/
def pipeUnit (p : Plan) : Option (Fin 16) :=
  if h : p.header.pipeIndex < 16 then
    let r := p.sensors[p.header.pipeIndex]
    if r.enabled && r.role == .pipe then some ⟨p.header.pipeIndex, h⟩ else none
  else none

/-- The outdoor unit: the entry named by the header's outdoor sensor index (R178). -/
def outdoorUnit (p : Plan) : Option (Fin 16) :=
  if h : p.header.outdoorIndex < 16 then
    let r := p.sensors[p.header.outdoorIndex]
    if r.enabled && r.role == .outdoor then some ⟨p.header.outdoorIndex, h⟩ else none
  else none

/-- The flow pulse input named by the header (R113). -/
def flowInput (p : Plan) : Option (Fin 8) :=
  if h : p.header.flowIndex < 8 then some ⟨p.header.flowIndex, h⟩ else none

/-- T, the no-flow limit in milliseconds (R113). -/
def flowLimit (p : Plan) : Nat := p.header.flowTimeout * 1000

/-- The zone is an enabled room zone. -/
def isRoom (p : Plan) (z : Fin 12) : Bool := p.zones[z].enabled && p.zones[z].kind == .room

/-- The zone is an enabled cylinder zone. -/
def isCylinder (p : Plan) (z : Fin 12) : Bool := p.zones[z].enabled && p.zones[z].kind == .cylinder

/-- The enabled cylinder zone; the check admits at most one (R32 code 11). -/
def cylinderZone (p : Plan) : Option (Fin 12) := allZones.find? (isCylinder p)

/-- The zones enabled in the plan, as a mask. -/
def enabledMask (p : Plan) : BitVec 12 :=
  allZones.foldl (fun m z => if p.zones[z].enabled then m ||| BitVec.twoPow 12 z.val else m) 0

/-- The priority level of a service (R24). -/
def servicePriority (p : Plan) : Service → Nat
  | .frost => p.header.frostPriority
  | .cylinder => p.header.cylPriority
  | .heating => p.header.heatPriority

/-- The debounce time in milliseconds of a debounce code (R26, R106). -/
def debounceTime : Nat → Nat
  | 0 => 2
  | 1 => 20
  | 2 => 200
  | _ => 2000

/-- The role of an input under the active plan; no input has a role while no plan is adopted (R107, R111). -/
def inputRole (active : Option Plan) (k : Fin 8) : InputRole :=
  match active with
  | none => .none
  | some p => p.inputs[k].role

/-- The number of outputs in a mask. -/
def outputCount (mask : BitVec 16) : Nat :=
  ((List.range 16).filter fun n => mask.getLsbD n).length

/-- The supply group of a zone's outputs: output n belongs to group n div 8 (R139). -/
def maskGroup (mask : BitVec 16) : Fin 2 := if mask &&& 0x00FF != 0 then 0 else 1

/-- The supply group of a zone under a plan. -/
def zoneGroup (p : Plan) (z : Fin 12) : Fin 2 := maskGroup p.zones[z].mask

/-- The setpoint of a zone for a level, in half degrees (R56). -/
def setpointOf (r : ZoneRec) : Level → Nat
  | .frost => r.frostSp
  | .eco => r.ecoSp
  | .comfort => r.comfortSp
  | .comfortPlus => r.comfortPlusSp

/-- The level with a number 0 to 3. -/
def levelOf? : Nat → Option Level
  | 0 => some .frost
  | 1 => some .eco
  | 2 => some .comfort
  | 3 => some .comfortPlus
  | _ => none

/-- The number of a level. -/
def levelNumber : Level → Nat
  | .frost => 0
  | .eco => 1
  | .comfort => 2
  | .comfortPlus => 3

/-- The listed switch points of a profile: its first count places (R28). -/
def listedPoints (d : DayProfile) : List SwitchPoint := d.places.toList.take d.count

/-- The profile a zone's week table names for a day. -/
def profileFor (p : Plan) (r : ZoneRec) (day : Nat) : List SwitchPoint :=
  if h : day < 7 then
    if h' : r.week[day] < 64 then listedPoints p.profiles[r.week[day]] else []
  else []

/-! ## The request in the ring -/

/-- Byte `k` of the ring slot of count `q` (R61, R191). -/
def slotByte (s : State) (k : Nat) : Nat :=
  (Shadow.read s.plan.shadow (0x0B00 + 16 * (s.req.consumer.toNat % 16) + k)).toNat

/-- The kinds of request (R61). -/
inductive RequestKind where
  | setClock | addOverride | cancelOverride | clearLockout | reload
  | unknown (kind : Nat)
deriving DecidableEq, Repr

/-- The kind with a number. -/
def requestKind : Nat → RequestKind
  | 1 => .setClock
  | 2 => .addOverride
  | 3 => .cancelOverride
  | 4 => .clearLockout
  | 5 => .reload
  | n => .unknown n

/-- The kind of the request to be taken. -/
def slotKind (s : State) : RequestKind := requestKind (slotByte s 0)

/-- Its tag. -/
def slotTag (s : State) : Byte := byteOf (slotByte s 1)

/-! ## Bits of bytes -/

/-- The protection level in bits 3:2 of a status byte (R189). -/
def statusLevel (b : Byte) : Fin 4 := Fin.ofNat 4 (b.toNat / 4)

/-- The 24-bit value of three address bytes, most significant first (R2). -/
def addressOf : List Byte → Option Nat
  | [a, b, c] => some (a.toNat * 65536 + b.toNat * 256 + c.toNat)
  | _ => none

/-- The class of a command byte (R189). -/
def classify (code : Byte) : CmdClass :=
  if code = 0x06 then .writeEnable
  else if code = 0x04 then .writeDisable
  else if code = 0x05 then .readStatus
  else if code = 0x01 then .writeStatus
  else if code = 0x03 then .read
  else if code = 0x02 then .write
  else .unrecognised

end Sys2Proof.Machine
end

