-- ==== Sys2Proof/Decode.lean ====
section
/-!
DEFINITION. The commands that bytes on the host's bus spell (R4, R189). The rows of spec/opcode_table.json give no bits of their own,
but R189 gives the command byte of each class of host transaction, which is the first byte of the words read here (assumption 2).
-/

namespace Sys2Proof

open Sys2Proof.Machine

/-- The command that a complete command byte picks (R4, R189), with the complete bytes `more` after it: a WRITE takes the first three of
them as its address, and its data bytes are commands of their own. -/
def commandOf (first : BusByte) (more : List BusByte) : Instr :=
  match classify first.sdi with
  | .writeEnable => .writeEnable more first.sdo
  | .writeDisable => .writeDisable more first.sdo
  | .readStatus => .readStatus more first.sdo
  | .writeStatus => .writeStatus more first.sdo
  | .read => .read more first.sdo
  | .write => .write (more.take 3) first.sdo
  | .unrecognised => .unrecognisedCommand first more

/-- The data bytes of a WRITE: those after its address (R9). -/
def writtenBytes (code : Byte) (more : List BusByte) : List BusByte := if classify code = .write then more.drop 3 else []

/-- The commands of one host transaction, from its complete bytes and the bits of the incomplete byte at its end (R3). A transaction that
ends before its command byte completes has no class (R4). -/
def hostTransaction (bytes : List BusByte) (bits : List BusBit) : List Instr :=
  match bytes with
  | [] => [.hostTransactionBegin, .hostTransactionEnd bits]
  | first :: more =>
    [.hostTransactionBegin, commandOf first more] ++ (writtenBytes first.sdi more).map Instr.landedByte ++ [.hostTransactionEnd bits]

/-- The first `n` bytes of a word, the least significant first. -/
def wordBytes : Nat → Nat → List Byte
  | 0, _ => []
  | n + 1, w => BitVec.ofNat 8 w :: wordBytes n (w / 256)

/-- The command that a word of whole bytes spells: its first byte is the command byte of R189, and the bytes after it are those the host
sends. A word gives no byte of the memory, which answers 0 to each (assumption 2). A word without a complete byte spells none. -/
def decodeTableWord (nbits w : Nat) : Option Instr :=
  match (wordBytes (nbits / 8) w).map fun b => BusByte.mk b 0 with
  | [] => none
  | first :: more => some (commandOf first more)

end Sys2Proof
end

