-- ==== Sys2Proof/Config.lean ====
section
/-!
DEFINITION. The values the spec leaves open: constants with no body, so that no proof can rest on one.
-/

namespace Sys2Proof.Config

/-- FREE VALUE (assumption 5). The range (lowest, highest) that the plan check applies to setpoint number `which`
(0 frost, 1 eco, 2 comfort, 3 comfort-plus) of an enabled zone record whose kind byte `code` is neither ROOM nor CYLINDER.
R25 gives ranges for the two listed kinds only; such a record is refused (R32 code 3), so only the clamp count and
the first-clamp offset of that refused check can depend on it. -/
opaque unlistedKindRange (code which : Nat) : Nat × Nat

/-- FREE VALUE (assumption 6). What the byte "max_energised in use" of supply group `g` reads in a live image
frozen while no plan is adopted. R192 names the byte and R154 shows "the max_energised in use"; with plan status NONE none is in use. -/
opaque maxEnergisedWithoutPlan (g : Nat) : Byte

/-- FREE VALUE (assumption 10). The flow target at effective cap CAP2 of a service whose target is `target` under a cap1_flow of
`cap1` sixteenths. R180 states the target at CAP0 and CAP1 only; at CAP2 the burner does not fire, but the heat-source record
shows the target and its duty. -/
opaque cap2FlowTarget (target cap1 : Int) : Int

end Sys2Proof.Config
end

