-- ==== Sys2Proof/Machine/PlanCheck.lean ====
section
/-!
DEFINITION. The plan check as a function of the shadow (sections 2.1 to 2.6 of 02_the_heating_plan.md and section 11.2 of
11_record_layouts.md): the stored records, their working values with the clamps, and the structural violations.
-/

namespace Sys2Proof.Machine

/-! ## The stored plan (R190) -/

/-- The byte at a window offset of a shadow, as a number. -/
def rd (m : List Host.Cell) (a : Nat) : Nat := (Shadow.read m a).toNat

/-- The 16-bit field at a window offset. -/
def rd16 (m : List Host.Cell) (a : Nat) : Nat := le16 (rd m a) (rd m (a + 1))

/-- The code of a kind byte (R190). -/
def kindOf : Nat → ZoneKind
  | 0 => .room
  | 1 => .cylinder
  | n => .other n

/-- The code of an input role byte (R190). -/
def inputRoleOf : Nat → InputRole
  | 0 => .none
  | 1 => .window
  | 2 => .flowPulse
  | 3 => .boilerFault
  | 4 => .supplyLow
  | n => .other n

/-- The code of an active level byte (R190). -/
def activeLevelOf : Nat → ActiveLevel
  | 0 => .low
  | 1 => .high
  | n => .other n

/-- The code of an edge select byte (R190). -/
def edgeSelectOf : Nat → EdgeSelect
  | 0 => .none
  | 1 => .rising
  | 2 => .falling
  | 3 => .both
  | n => .other n

/-- The code of a sensor role byte (R190). -/
def sensorRoleOf : Nat → SensorRole
  | 0 => .room
  | 1 => .outdoor
  | 2 => .pipe
  | 3 => .cylinder
  | n => .other n

/-- The header as stored (R190). -/
def storedHeader (m : List Host.Cell) : Header where
  magic0 := rd m 0x00
  magic1 := rd m 0x01
  version := rd m 0x02
  generation := Shadow.read m 0x03
  bypass := (Shadow.read m 0x04).getLsbD 0
  cylPathForFrost := (Shadow.read m 0x04).getLsbD 1
  frostPriority := rd m 0x05
  cylPriority := rd m 0x06
  heatPriority := rd m 0x07
  pipeIndex := rd m 0x08
  outdoorIndex := rd m 0x09
  defaultOutdoor := signed8 (rd m 0x0A)
  slope := rd m 0x0B
  shift := signed8 (rd m 0x0C)
  flowMin := rd m 0x0D
  flowMax := rd m 0x0E
  dshift := rd m 0x0F
  callThreshold := rd m 0x10
  overheat := rd m 0x11
  bandLow := rd m 0x12
  bandMid := rd m 0x13
  cap1Flow := rd m 0x14
  cylFlow := rd m 0x15
  ignMax := rd m 0x16
  minOn := rd m 0x17
  minOff := rd m 0x18
  prerun := rd m 0x19
  postrun := rd m 0x1A
  cylMax := rd m 0x1B
  cylBlock := rd m 0x1C
  flowIndex := rd m 0x1D
  flowTimeout := rd m 0x1E

/-- The window offset of zone record `n`. -/
def zoneOffset (n : Nat) : Nat := 0x0040 + 32 * n
/-- The window offset of supply group record `g`. -/
def groupOffset (g : Nat) : Nat := 0x01C0 + 16 * g
/-- The window offset of input entry `k`. -/
def inputOffset (k : Nat) : Nat := 0x01E0 + 4 * k
/-- The window offset of sensor entry `i`. -/
def sensorOffset (i : Nat) : Nat := 0x0200 + 16 * i
/-- The window offset of day profile `q`. -/
def profileOffset (q : Nat) : Nat := 0x0300 + 32 * q

/-- The zone record at an offset, as stored (R190). -/
def storedZone (m : List Host.Cell) (o : Nat) : ZoneRec where
  enabled := rd m o != 0
  kind := kindOf (rd m (o + 0x01))
  sensor := rd m (o + 0x02)
  mask := BitVec.ofNat 16 (rd16 m (o + 0x03))
  priority := rd m (o + 0x05)
  frostSp := rd m (o + 0x06)
  ecoSp := rd m (o + 0x07)
  comfortSp := rd m (o + 0x08)
  comfortPlusSp := rd m (o + 0x09)
  kp := rd m (o + 0x0A)
  ki := rd m (o + 0x0B)
  deadband := rd m (o + 0x0C)
  openTime := rd16 m (o + 0x0D)
  closeTime := rd16 m (o + 0x0F)
  minOn := rd m (o + 0x11)
  fallback := rd m (o + 0x12)
  hysteresis := rd m (o + 0x13)
  windowMask := Shadow.read m (o + 0x14)
  week := tabulate fun d => rd m (o + 0x15 + d.val)

/-- The supply group record at an offset, as stored (R190). -/
def storedGroup (m : List Host.Cell) (o : Nat) : GroupRec where
  maxEnergised := rd m o
  inrushMax := rd m (o + 0x01)
  inrushWindow := rd m (o + 0x02)

/-- The input entry at an offset, as stored (R190). -/
def storedInput (m : List Host.Cell) (o : Nat) : InputRec where
  role := inputRoleOf (rd m o)
  active := activeLevelOf (rd m (o + 0x01))
  edge := edgeSelectOf (rd m (o + 0x02))
  debounce := rd m (o + 0x03) % 16
  group := rd m (o + 0x03) / 16

/-- The sensor entry at an offset, as stored (R190). -/
def storedSensor (m : List Host.Cell) (o : Nat) : SensorRec where
  enabled := rd m o != 0
  address := rd m (o + 0x01)
  role := sensorRoleOf (rd m (o + 0x02))
  offset := signed8 (rd m (o + 0x03))

/-- The day profile at an offset, as stored (R190). -/
def storedProfile (m : List Host.Cell) (o : Nat) : DayProfile where
  count := rd m o
  places := tabulate fun j => ⟨rd16 m (o + 0x02 + 3 * j.val), rd m (o + 0x04 + 3 * j.val)⟩

/-- The plan area as stored in a shadow. -/
def storedPlan (m : List Host.Cell) : Plan where
  header := storedHeader m
  zones := tabulate fun n => storedZone m (zoneOffset n.val)
  groups := tabulate fun g => storedGroup m (groupOffset g.val)
  inputs := tabulate fun k => storedInput m (inputOffset k.val)
  sensors := tabulate fun i => storedSensor m (sensorOffset i.val)
  profiles := tabulate fun q => storedProfile m (profileOffset q.val)

/-! ## Working values and clamps (R23) -/

/-- A working value, with the window offset of the field for each clamp that made it. -/
structure Worked (α : Type) where
  value : α
  clamps : List Nat
deriving Repr

/-- The range and the default of a numeric field. -/
structure FieldRange where
  lo : Nat
  hi : Nat
  dflt : Option Nat := none
deriving Repr

/-- The first step of R23: a field that has a default and holds its default selector takes its default. The selector is 0 where
the range does not include 0, and 255 where it does. -/
def takeDefault (f : FieldRange) (v : Nat) : Nat :=
  match f.dflt with
  | some d => if v = (if f.lo = 0 then 255 else 0) then d else v
  | none => v

/-- The working value of an unsigned field at offset `o` (R23). -/
def workNat (o : Nat) (f : FieldRange) (v : Nat) : Worked Nat :=
  let d := takeDefault f v
  let c := clampNat d f.lo f.hi
  ⟨c, if c = d then [] else [o]⟩

/-- The working value of a signed field at offset `o` (R23). -/
def workInt (o : Nat) (lo hi v : Int) : Worked Int :=
  let c := clampInt v lo hi
  ⟨c, if c = v then [] else [o]⟩

/-- The working value of an index field whose range is 0 to a limit, or 255 for none (R23). -/
def workIndex (o limit v : Nat) : Worked Nat := if limit < v ∧ v < 255 then ⟨255, [o]⟩ else ⟨v, []⟩

/-- The two stages of flow_max: its range, then the raise to flow_min + 5 (R24). -/
def workFlowMax (o flowMin v : Nat) : Worked Nat :=
  let first := workNat o ⟨40, 85, some 75⟩ v
  if first.value < flowMin + 5 then ⟨flowMin + 5, first.clamps ++ [o]⟩ else first

/-- The header's working values (R24). -/
def workHeader (h : Header) : Worked Header :=
  let frostPriority := workNat 0x05 ⟨0, 7, some 0⟩ h.frostPriority
  let cylPriority := workNat 0x06 ⟨0, 7, some 2⟩ h.cylPriority
  let heatPriority := workNat 0x07 ⟨0, 7, some 4⟩ h.heatPriority
  let pipeIndex := workIndex 0x08 15 h.pipeIndex
  let outdoorIndex := workIndex 0x09 15 h.outdoorIndex
  let defaultOutdoor := workInt 0x0A (-20) 20 h.defaultOutdoor
  let slope := workNat 0x0B ⟨2, 40, some 12⟩ h.slope
  let shift := workInt 0x0C (-20) 20 h.shift
  let flowMin := workNat 0x0D ⟨20, 50, some 25⟩ h.flowMin
  let flowMax := workFlowMax 0x0E flowMin.value h.flowMax
  let dshift := workNat 0x0F ⟨0, 15, some 4⟩ h.dshift
  let callThreshold := workNat 0x10 ⟨1, 128, some 20⟩ h.callThreshold
  let overheat := workNat 0x11 ⟨70, 95, some 85⟩ h.overheat
  let bandLow := workNat 0x12 ⟨40, 100, some 78⟩ h.bandLow
  let bandMid := workNat 0x13 ⟨40, 100, some 82⟩ h.bandMid
  let cap1Flow := workNat 0x14 ⟨30, flowMax.value, some 60⟩ h.cap1Flow
  let cylFlow := workNat 0x15 ⟨50, 80, some 70⟩ h.cylFlow
  let ignMax := workNat 0x16 ⟨1, 6, some 3⟩ h.ignMax
  let minOn := workNat 0x17 ⟨1, 10, some 3⟩ h.minOn
  let minOff := workNat 0x18 ⟨1, 30, some 5⟩ h.minOff
  let prerun := workNat 0x19 ⟨5, 60, some 15⟩ h.prerun
  let postrun := workNat 0x1A ⟨1, 15, some 3⟩ h.postrun
  let cylMax := workNat 0x1B ⟨10, 120, some 45⟩ h.cylMax
  let cylBlock := workNat 0x1C ⟨5, 120, some 30⟩ h.cylBlock
  let flowIndex := workIndex 0x1D 7 h.flowIndex
  let flowTimeout := workNat 0x1E ⟨2, 30, some 10⟩ h.flowTimeout
  { value := { h with
      frostPriority := frostPriority.value, cylPriority := cylPriority.value, heatPriority := heatPriority.value,
      pipeIndex := pipeIndex.value, outdoorIndex := outdoorIndex.value, defaultOutdoor := defaultOutdoor.value,
      slope := slope.value, shift := shift.value, flowMin := flowMin.value, flowMax := flowMax.value,
      dshift := dshift.value, callThreshold := callThreshold.value, overheat := overheat.value,
      bandLow := bandLow.value, bandMid := bandMid.value, cap1Flow := cap1Flow.value, cylFlow := cylFlow.value,
      ignMax := ignMax.value, minOn := minOn.value, minOff := minOff.value, prerun := prerun.value,
      postrun := postrun.value, cylMax := cylMax.value, cylBlock := cylBlock.value, flowIndex := flowIndex.value,
      flowTimeout := flowTimeout.value }
    clamps := frostPriority.clamps ++ cylPriority.clamps ++ heatPriority.clamps ++ pipeIndex.clamps ++
      outdoorIndex.clamps ++ defaultOutdoor.clamps ++ slope.clamps ++ shift.clamps ++ flowMin.clamps ++
      flowMax.clamps ++ dshift.clamps ++ callThreshold.clamps ++ overheat.clamps ++ bandLow.clamps ++
      bandMid.clamps ++ cap1Flow.clamps ++ cylFlow.clamps ++ ignMax.clamps ++ minOn.clamps ++ minOff.clamps ++
      prerun.clamps ++ postrun.clamps ++ cylMax.clamps ++ cylBlock.clamps ++ flowIndex.clamps ++ flowTimeout.clamps }

/-- The range of setpoint number `which` by the zone's kind (R25); for an unlisted kind it is a free value (assumption 5). -/
def setpointRange (k : ZoneKind) (which : Nat) : FieldRange :=
  match k with
  | .room => if which = 0 then ⟨10, 24, none⟩ else ⟨10, 60, none⟩
  | .cylinder => ⟨20, 140, none⟩
  | .other code => ⟨(Config.unlistedKindRange code which).1, (Config.unlistedKindRange code which).2, none⟩

/-- The working value of an upper setpoint: a room zone's is then at least the working frost setpoint, and a field is never
counted as more than one clamp (R25). -/
def workUpper (o : Nat) (k : ZoneKind) (which frost v : Nat) : Worked Nat :=
  let c := (workNat o (setpointRange k which) v).value
  let r := if k = .room then max c frost else c
  ⟨r, if r = v then [] else [o]⟩

/-- An enabled zone's working values (R25); `o` is the window offset of its record. -/
def workZone (o : Nat) (r : ZoneRec) : Worked ZoneRec :=
  let priority := workNat (o + 0x05) ⟨0, 7, none⟩ r.priority
  let frostSp := workNat (o + 0x06) (setpointRange r.kind 0) r.frostSp
  let ecoSp := workUpper (o + 0x07) r.kind 1 frostSp.value r.ecoSp
  let comfortSp := workUpper (o + 0x08) r.kind 2 frostSp.value r.comfortSp
  let comfortPlusSp := workUpper (o + 0x09) r.kind 3 frostSp.value r.comfortPlusSp
  let kp := workNat (o + 0x0A) ⟨1, 64, some 32⟩ r.kp
  let ki := workNat (o + 0x0B) ⟨0, 32, some 6⟩ r.ki
  let deadband := workNat (o + 0x0C) ⟨0, 16, none⟩ r.deadband
  let openTime := workNat (o + 0x0D) ⟨30, 300, some 180⟩ r.openTime
  let closeTime := workNat (o + 0x0F) ⟨30, 300, some 240⟩ r.closeTime
  let minOn := workNat (o + 0x11) ⟨0, 120, some 30⟩ r.minOn
  let fallback := workNat (o + 0x12) ⟨0, 254, some 64⟩ r.fallback
  let hysteresis := workNat (o + 0x13) ⟨2, 10, some 5⟩ r.hysteresis
  { value := { r with
      priority := priority.value, frostSp := frostSp.value, ecoSp := ecoSp.value, comfortSp := comfortSp.value,
      comfortPlusSp := comfortPlusSp.value, kp := kp.value, ki := ki.value, deadband := deadband.value,
      openTime := openTime.value, closeTime := closeTime.value, minOn := minOn.value, fallback := fallback.value,
      hysteresis := hysteresis.value }
    clamps := priority.clamps ++ frostSp.clamps ++ ecoSp.clamps ++ comfortSp.clamps ++ comfortPlusSp.clamps ++
      kp.clamps ++ ki.clamps ++ deadband.clamps ++ openTime.clamps ++ closeTime.clamps ++ minOn.clamps ++
      fallback.clamps ++ hysteresis.clamps }

/-- A supply group's working values (R26). -/
def workGroup (o : Nat) (r : GroupRec) : Worked GroupRec :=
  let maxEnergised := workNat o ⟨1, 16, some 8⟩ r.maxEnergised
  let inrushMax := workNat (o + 0x01) ⟨1, 8, some 2⟩ r.inrushMax
  let inrushWindow := workNat (o + 0x02) ⟨1, 60, some 10⟩ r.inrushWindow
  { value := ⟨maxEnergised.value, inrushMax.value, inrushWindow.value⟩
    clamps := maxEnergised.clamps ++ inrushMax.clamps ++ inrushWindow.clamps }

/-- An input entry's working values: the debounce code for every role but NONE, the supply group for SUPPLY_LOW (R26, R190). -/
def workInput (o : Nat) (r : InputRec) : Worked InputRec :=
  let debounce := if r.role = .none then ⟨r.debounce, []⟩ else workNat (o + 0x03) ⟨0, 3, none⟩ r.debounce
  let group := if r.role = .supplyLow then workNat (o + 0x03) ⟨0, 1, none⟩ r.group else ⟨r.group, []⟩
  { value := { r with debounce := debounce.value, group := group.value }
    clamps := debounce.clamps ++ group.clamps }

/-- An enabled sensor entry's working values (R27). -/
def workSensor (o : Nat) (r : SensorRec) : Worked SensorRec :=
  let offset := workInt (o + 0x03) (-32) 32 r.offset
  ⟨{ r with offset := offset.value }, offset.clamps⟩

/-- Work a record only where it is in use; a record not in use is carried as stored (R22, R34). -/
def workIf {α : Type} (inUse : Bool) (w : Worked α) (stored : α) : Worked α := if inUse then w else ⟨stored, []⟩

/-- The working values of zone `n`. -/
def workedZone (p : Plan) (n : Fin 12) : Worked ZoneRec :=
  workIf p.zones[n].enabled (workZone (zoneOffset n.val) p.zones[n]) p.zones[n]

/-- The working values of supply group `g`. -/
def workedGroup (p : Plan) (g : Fin 2) : Worked GroupRec := workGroup (groupOffset g.val) p.groups[g]

/-- The working values of input `k`. -/
def workedInput (p : Plan) (k : Fin 8) : Worked InputRec := workInput (inputOffset k.val) p.inputs[k]

/-- The working values of sensor entry `i`. -/
def workedSensor (p : Plan) (i : Fin 16) : Worked SensorRec :=
  workIf p.sensors[i].enabled (workSensor (sensorOffset i.val) p.sensors[i]) p.sensors[i]

/-- The plan of working values, from a stored plan (R22, R23). -/
def workingPlan (p : Plan) : Plan where
  header := (workHeader p.header).value
  zones := tabulate fun n => (workedZone p n).value
  groups := tabulate fun g => (workedGroup p g).value
  inputs := tabulate fun k => (workedInput p k).value
  sensors := tabulate fun i => (workedSensor p i).value
  profiles := p.profiles

/-- The clamps of a stored plan, by window offset. -/
def planClamps (p : Plan) : List Nat :=
  (workHeader p.header).clamps ++ allZones.flatMap (fun n => (workedZone p n).clamps) ++
    allGroups.flatMap (fun g => (workedGroup p g).clamps) ++ allInputs.flatMap (fun k => (workedInput p k).clamps) ++
    allEntries.flatMap (fun i => (workedSensor p i).clamps)

/-- The clamp count of a check, which stops at 255 (R23). -/
def clampCountOf (p : Plan) : Nat := min 255 (planClamps p).length

/-- The first-clamp offset of a check (R23). -/
def firstClampOf (p : Plan) : Nat := (planClamps p).foldl min 0xFFFF

/-! ## Structural conditions (R32) -/

/-- A violation: its candidate offset and its code. -/
structure Violation where
  offset : Nat
  code : RefusalCode
deriving DecidableEq, Repr

/-- The number of a refusal code (R32). -/
def refusalNumber : RefusalCode → Nat
  | .magic => 1
  | .version => 2
  | .code => 3
  | .priority => 4
  | .bands => 5
  | .profile => 6
  | .zoneSensor => 7
  | .outputShared => 8
  | .outputMask => 9
  | .cylinderOutputs => 10
  | .cylinderCount => 11
  | .sensorAddress => 12
  | .noPipe => 13
  | .flowInput => 14
  | .outdoor => 15

/-- A violation at an offset where a condition holds. -/
def violation (c : Bool) (offset : Nat) (why : RefusalCode) : List Violation := if c then [⟨offset, why⟩] else []

/-- Codes 1 and 2: the magic and the layout version. -/
def identityViolations (h : Header) : List Violation :=
  violation (h.magic0 != 0x47 || h.magic1 != 0x53) (if h.magic0 != 0x47 then 0x00 else 0x01) .magic ++
    violation (h.version != 1) 0x02 .version

/-- Codes 4 and 5: equal service priorities, and the bands. -/
def headerViolations (h : Header) : List Violation :=
  violation (h.cylPriority == h.frostPriority) 0x06 .priority ++
    violation (h.heatPriority == h.frostPriority || h.heatPriority == h.cylPriority) 0x07 .priority ++
    violation (decide (h.bandMid ≤ h.bandLow) || decide (h.overheat < h.bandMid)) 0x13 .bands

/-- Code 3: an enumerated field of an enabled zone, an input or an enabled sensor entry outside its list. -/
def zoneCode (r : ZoneRec) (o : Nat) : List Violation :=
  match r.kind with
  | .other _ => violation r.enabled (o + 0x01) .code
  | .room | .cylinder => []

/-- Code 3 for an input entry: the role always, the active level for every role but NONE, the edge select for FLOW_PULSE (R26). -/
def inputCode (r : InputRec) (o : Nat) : List Violation :=
  (match r.role with
    | .other _ => [⟨o, .code⟩]
    | _ => []) ++
  (match r.active with
    | .other _ => violation (r.role != .none) (o + 0x01) .code
    | _ => []) ++
  (match r.edge with
    | .other _ => violation (r.role == .flowPulse) (o + 0x02) .code
    | _ => [])

/-- Code 3 for a sensor entry's role. -/
def sensorCode (r : SensorRec) (o : Nat) : List Violation :=
  match r.role with
  | .other _ => violation r.enabled (o + 0x02) .code
  | _ => []

/-- A listed switch point is offending: its minute or its level is out of range, or its minute is not above the one before. Of two
neighbours that are not in ascending order the later is the offending one (DESIGN CHOICE, assumption 42). -/
def pointOffends (before : Option SwitchPoint) (w : SwitchPoint) : Bool :=
  decide (1439 < w.minute) || decide (3 < w.level) ||
    match before with
    | some b => decide (w.minute ≤ b.minute)
    | none => false

/-- The place of the first offending switch point of a list, counted from `j` (R28, R32). -/
def firstOffending (before : Option SwitchPoint) (j : Nat) : List SwitchPoint → Option Nat
  | [] => none
  | w :: rest => if pointOffends before w then some j else firstOffending (some w) (j + 1) rest

/-- The offending field of a malformed profile at an offset (R28, R32 code 6). -/
def profileFault (d : DayProfile) (o : Nat) : Option Nat :=
  if 8 < d.count then some o else (firstOffending none 0 (listedPoints d)).map fun j => o + 0x02 + 3 * j

/-- Code 6 for one day of an enabled zone's week table at offset `o`. -/
def weekViolation (p : Plan) (entry o : Nat) : List Violation :=
  if h : entry < 64 then
    match profileFault p.profiles[entry] (profileOffset entry) with
    | some a => [⟨a, .profile⟩]
    | none => []
  else [⟨o, .profile⟩]

/-- Code 6 for an enabled zone. -/
def weekViolations (p : Plan) (r : ZoneRec) (o : Nat) : List Violation :=
  ([0, 1, 2, 3, 4, 5, 6] : List (Fin 7)).flatMap fun d => weekViolation p r.week[d] (o + 0x15 + d.val)

/-- The role that a zone's sensor entry must have; an unlisted kind asks for none. -/
def roleSuits (k : ZoneKind) (r : SensorRole) : Bool :=
  match k with
  | .room => r == .room
  | .cylinder => r == .cylinder
  | .other _ => true

/-- The zone's sensor index names an enabled entry of the role its kind asks for (code 7). -/
def sensorSuits (p : Plan) (r : ZoneRec) : Bool :=
  if h : r.sensor < 16 then p.sensors[r.sensor].enabled && roleSuits r.kind p.sensors[r.sensor].role else false

/-- The output mask of an enabled room zone is well formed (code 9). -/
def maskSuits (p : Plan) (mask : BitVec 16) : Bool :=
  mask != 0 && (mask &&& 0x00FF == 0 || mask &&& 0xFF00 == 0) &&
    decide (outputCount mask ≤ p.groups[maskGroup mask].maxEnergised)

/-- Some enabled zone of a lower number satisfies a condition. -/
def lowerZone (p : Plan) (n : Fin 12) (c : ZoneRec → Bool) : Bool :=
  allZones.any fun m => decide (m < n) && p.zones[m].enabled && c p.zones[m]

/-- Codes 3 and 6 to 11 for an enabled zone. -/
def zoneViolations (p : Plan) (n : Fin 12) : List Violation :=
  let r := p.zones[n]
  let o := zoneOffset n.val
  if r.enabled then
    zoneCode r o ++ weekViolations p r o ++
      violation (!sensorSuits p r) (o + 0x02) .zoneSensor ++
      violation (lowerZone p n fun q => q.mask &&& r.mask != 0) (o + 0x03) .outputShared ++
      violation (r.kind == .room && !maskSuits p r.mask) (o + 0x03) .outputMask ++
      violation (r.kind == .cylinder && r.mask != 0) (o + 0x03) .cylinderOutputs ++
      violation (r.kind == .cylinder && lowerZone p n fun q => q.kind == .cylinder) (o + 0x01) .cylinderCount
  else []

/-- Codes 3 and 12 for an enabled sensor entry. -/
def sensorViolations (p : Plan) (i : Fin 16) : List Violation :=
  let r := p.sensors[i]
  let o := sensorOffset i.val
  let shared := allEntries.any fun j => decide (j < i) && p.sensors[j].enabled && p.sensors[j].address == r.address
  sensorCode r o ++
    violation (r.enabled && (r.address == 0 || decide (31 < r.address) || shared)) (o + 0x01) .sensorAddress

/-- An input of role FLOW_PULSE is named (code 14). -/
def namesFlowPulse (p : Plan) : Bool :=
  match flowInput p with
  | some k => p.inputs[k].role == .flowPulse
  | none => true

/-- Codes 13 to 15: the pipe unit, the flow pulse input and the outdoor unit. -/
def indexViolations (p : Plan) : List Violation :=
  violation ((allZones.any fun z => p.zones[z].enabled) && (pipeUnit p).isNone) 0x08 .noPipe ++
    violation (!namesFlowPulse p) 0x1D .flowInput ++
    violation (decide (p.header.outdoorIndex < 16) && (outdoorUnit p).isNone) 0x09 .outdoor

/-- Every violation of a plan of working values (R32). -/
def violations (p : Plan) : List Violation :=
  identityViolations p.header ++ headerViolations p.header ++ indexViolations p ++
    allZones.flatMap (zoneViolations p) ++ allInputs.flatMap (fun k => inputCode p.inputs[k] (inputOffset k.val)) ++
    allEntries.flatMap (sensorViolations p)

/-- Of two violations, the one to report: the lower offset, then the lower code (R33). -/
def soonerViolation (a b : Violation) : Violation :=
  if b.offset < a.offset ∨ (b.offset = a.offset ∧ refusalNumber b.code < refusalNumber a.code) then b else a

/-- The reported violation, or none where the plan is adopted (R33, R34). -/
def reportedViolation (p : Plan) : Option Violation :=
  match violations p with
  | [] => none
  | v :: rest => some (rest.foldl soonerViolation v)

end Sys2Proof.Machine
end

