-- ==== Sys2Proof/Machine/Flags.lean ====
section
/-!
DEFINITION. The statuses and conditions that are functions of the state: plan status, services and their calls, path and start
permission, pump and flow states, group counts, override winners, and the output pins.
-/

namespace Sys2Proof.Machine

/-! ## Plan status -/

/-- The plan status values (R45). -/
inductive PlanStatus where
  | none | active | activeDoubt
deriving DecidableEq, Repr

/-- The plan status (R13, R45). -/
def planStatus (s : State) : PlanStatus :=
  if s.plan.active.isNone then .none else if s.mem.doubt then .activeDoubt else .active

/-! ## Overrides: winners and levels present (R77) -/

/-- The entries that cover a zone, oldest first. -/
def covering (o : OverrideList) (z : Fin 12) : List OverrideEntry :=
  o.entries.filter fun e => e.mask.getLsbD z.val

/-- Of an entry so far and a later one, the one that wins: the numerically lower priority, and at equal priority the later. -/
def better (a : Option OverrideEntry) (e : OverrideEntry) : Option OverrideEntry :=
  match a with
  | none => some e
  | some b => if e.priority ≤ b.priority then some e else some b

/-- The winning entry of a zone (R77). -/
def winner (o : OverrideList) (z : Fin 12) : Option OverrideEntry := (covering o z).foldl better none

/-- The levels present of a zone: bit p for priority p (R77, R192). -/
def levelsPresent (o : OverrideList) (z : Fin 12) : Byte :=
  (covering o z).foldl (fun m e => m ||| BitVec.twoPow 8 e.priority) 0

/-! ## Sensors -/

/-- The entry is SEARCHING or LOST, so that a zone using it is in FALLBACK (R118). -/
def sensorBad (s : State) (i : Nat) : Bool :=
  match s.link.entries[i]? with
  | some e => e.state == .searching || e.state == .lost
  | none => false

/-- The held value of an entry. -/
def heldOf (s : State) (i : Nat) : Option Int :=
  match s.link.entries[i]? with
  | some e => e.held
  | none => none

/-- The entry is ONLINE or STALE. -/
def usable (e : SensorEntry) : Bool := e.state == .online || e.state == .stale

/-- The plan names a pipe unit and it is ONLINE or STALE (R165). -/
def pipeUsable (p : Plan) (s : State) : Bool :=
  match pipeUnit p with
  | some e => usable s.link.entries[e]
  | none => false

/-- The pipe unit's held value. -/
def pipeHeld (p : Plan) (s : State) : Option Int :=
  match pipeUnit p with
  | some e => s.link.entries[e].held
  | none => none

/-- The outdoor value in use (R178). -/
def outdoorInUse (p : Plan) (s : State) : Int :=
  let byHeader := p.header.defaultOutdoor * 16
  match outdoorUnit p with
  | none => byHeader
  | some e =>
    let u := s.link.entries[e]
    if usable u || (u.state == .lost && s.heat.outdoorHold.isSome) then u.held.getD byHeader else byHeader

/-! ## Calls and services (R156 to R159) -/

/-- HEATING calls while at least one room zone calls (R156). -/
def heatingCalls (p : Plan) (s : State) : Bool := allZones.any fun z => isRoom p z && s.reg[z].call

/-- CYLINDER calls while the cylinder zone calls and the block is not running (R156). -/
def cylinderCalls (p : Plan) (s : State) : Bool :=
  s.heat.cylBlock.isNone && allZones.any fun z => isCylinder p z && s.reg[z].call

/-- Whether a service calls; none does while no plan is adopted (R156). -/
def calling (p : Plan) (s : State) : Service → Bool
  | .frost => s.heat.frostCall
  | .cylinder => cylinderCalls p s
  | .heating => heatingCalls p s

/-- The served service: the head of the in-service list (R158). -/
def served (s : State) : Option Service := s.heat.inService.head?

/-- Insert a service into a list ordered by priority level, lowest number first. -/
def insertService (p : Plan) (x : Service) : List Service → List Service
  | [] => [x]
  | y :: rest => if servicePriority p x < servicePriority p y then x :: y :: rest else y :: insertService p x rest

/-- Order services by priority level. -/
def orderServices (p : Plan) (l : List Service) : List Service := l.foldr (insertService p) []

/-- The pending services: calling and not listed, highest priority first (R158). -/
def pendingServices (p : Plan) (s : State) (listed : List Service) : List Service :=
  orderServices p ([.frost, .cylinder, .heating].filter fun v => calling p s v && !listed.contains v)

/-! ## Pump, flow and caps -/

/-- PUMP as the heat-source state decides it (R164). -/
def pumpOn (h : HeatSource) : Bool :=
  match h.state with
  | .prerun | .firing | .postrun => true
  | .lockout => h.pumpRunExpiry.isSome
  | .off | .held => false

/-- BURN as the heat-source state decides it (R164). -/
def burnOn (h : HeatSource) : Bool := h.state == .firing

/-- FTO as the heat-source state decides it (R164, R180). -/
def ftoOut (h : HeatSource) : Nat := if h.state == .firing then h.duty else 0

/-- Flow is established: with no flow pulse input, as while no plan is adopted and no input has a role (R111), it is so at every moment
(R115, R192). -/
def flowEstablished (s : State) : Bool :=
  match s.plan.active with
  | none => true
  | some p => (flowInput p).isNone || s.inp.flow.established

/-- The larger of two cap levels. -/
def capMax : CapLevel → CapLevel → CapLevel
  | .cap2, _ => .cap2
  | _, .cap2 => .cap2
  | .cap1, _ => .cap1
  | _, .cap1 => .cap1
  | .cap0, .cap0 => .cap0

/-- The effective cap (R177). -/
def effectiveCap (s : State) : CapLevel := if s.inp.flow.late then capMax s.heat.cap .cap1 else s.heat.cap

/-- The cap level after a band (R177). -/
def capAfter : CapLevel → Nat → CapLevel
  | .cap2, 0 => .cap1
  | _, 0 => .cap0
  | _, 1 => .cap1
  | _, _ => .cap2

/-! ## Path and start permission -/

/-- The DIV position of a service: on for CYLINDER, and for FROST on the cylinder path (R162). -/
def divPosition (p : Plan) : Service → Bool
  | .heating => false
  | .cylinder => true
  | .frost => p.header.cylPathForFrost && (cylinderZone p).isSome

/-- The open valve count: the enabled room zones whose valve is OPEN (R163). -/
def openValves (p : Plan) (s : State) : Nat :=
  (allZones.filter fun z => isRoom p z && s.drv[z].valve == .open).length

/-- The path condition for a service (R163). -/
def pathHolds (p : Plan) (s : State) (v : Service) : Bool :=
  divPosition p v || p.header.bypass || decide (1 ≤ openValves p s)

/-- The first failing condition of start permission for a service, or NONE where it holds (R165). -/
def startBlock (p : Plan) (s : State) (v : Service) : HoldReason :=
  if s.clk.runSeconds < s.heat.lastStop + p.header.minOff * 60 then .minOff
  else if p.header.ignMax ≤ s.heat.ignitions.length then .ignLimit
  else if s.heat.cap == .cap2 then .cap2
  else if !pathHolds p s v then .noPath
  else if !pipeUsable p s then .noPipe
  else .none

/-- min_on has passed since the burner start (R169). -/
def minOnPassed (p : Plan) (s : State) : Bool :=
  decide (s.heat.burnerStart + p.header.minOn * 60 ≤ s.clk.runSeconds)

/-! ## Supply groups -/

/-- The outputs of a zone that are energised. -/
def zoneOutputs (p : Plan) (s : State) (z : Fin 12) : BitVec 16 :=
  if isRoom p z && s.drv[z].request == .energised then p.zones[z].mask else 0

/-- The levels of ACT0 to ACT15 (R139). -/
def actOutputs (s : State) : BitVec 16 :=
  match s.plan.active with
  | none => 0
  | some p => allZones.foldl (fun m z => m ||| zoneOutputs p s z) 0

/-- The energised output count of a group: the sum over its ENERGISED zones (R139). -/
def energisedCount (p : Plan) (s : State) (g : Fin 2) : Nat :=
  (allZones.map fun z =>
    if isRoom p z && zoneGroup p z == g && s.drv[z].request == .energised then outputCount p.zones[z].mask else 0).sum

/-- The run second at which a zone's request ends; "to cycle end" is the request cycle start plus 240 (R140). -/
def requestEnds (d : ZoneDrive) : Option Nat :=
  match d.reqEnd with
  | .none => none
  | .at t => some t
  | .toCycleEnd => d.cycleStart.map (· + 240)

/-- The zone's requested end has been reached (R144, R148). -/
def requestEnded (s : State) (z : Fin 12) : Bool :=
  match requestEnds s.drv[z] with
  | some t => decide (t ≤ s.clk.runSeconds)
  | none => false

/-- The energised time of the zone's current cycle so far (R153): what has been added up, and the interval under way counted
from the grant or the cycle start, whichever is later. -/
def energisedSoFar (s : State) (z : Fin 12) : Nat :=
  let d := s.drv[z]
  d.energisedTime +
    (if d.request == .energised then s.clk.runSeconds - max d.energisedSince (d.cycleStart.getD 0) else 0)

/-! ## The pins -/

/-- CS_M# follows CS_U# in a forwarded transaction (R3); in a load or reload the controller asserts it from the start of its own
transactions until it releases it (R17), and it is high otherwise, also in a held transaction (R16). -/
def memorySelected (m : MemoryPath) : Bool :=
  match m.txn with
  | .tracked _ | .untracked => true
  | .idle | .held => m.seq == .running

/-- The output pins as the state decides them (R3, R16, R17, R139, R162, R164, R187, R188). -/
def pinsOf (s : State) : Pins where
  busy := s.mem.busy
  attn := s.mem.inReset.isNone && s.faults.attention != s.faults.ack
  act := actOutputs s
  burn := burnOn s.heat
  pump := pumpOn s.heat
  div := s.heat.div
  fto := ftoOut s.heat
  sdoOnes := s.mem.txn == .held
  csM := memorySelected s.mem

/-! ## The fault list takes what an event handed (R183 to R185) -/

/-- The number of a fault code (R192). -/
def faultNumber : FaultCode → Nat
  | .sensorLost => 1
  | .sensorType => 2
  | .zoneFallback => 3
  | .linkContention => 4
  | .noFlow => 5
  | .overheat => 6
  | .boilerFault => 7
  | .cylTimeout => 8
  | .planRefused => 9
  | .mirrorDoubt => 10
  | .ringOverrun => 11
  | .supplyLow => 12
  | .clockInvalid => 13
  | .noPlan => 14

/-- The number of a code's kind: 0 NONE, 1 ZONE, 2 SENSOR, 3 GROUP (R182, R192). -/
def faultKind : FaultCode → Nat
  | .sensorLost | .sensorType => 2
  | .zoneFallback => 1
  | .supplyLow => 3
  | .linkContention | .noFlow | .overheat | .boilerFault | .cylTimeout | .planRefused | .mirrorDoubt | .ringOverrun
  | .clockInvalid | .noPlan => 0

/-- Whether an entry is the one of a code and subject. -/
def FaultEntry.is (e : FaultEntry) (code : FaultCode) (subject : Nat) : Bool := e.code == code && e.subject == subject

/-- Whether the fault list holds an entry of a code and subject. -/
def faultPresent (f : FaultUnit) (code : FaultCode) (subject : Nat) : Bool := f.entries.any (·.is code subject)

/-- A report that a condition has arisen (R183). -/
def applyArises (f : FaultUnit) (code : FaultCode) (subject : Nat) : FaultUnit :=
  if faultPresent f code subject then
    { f with entries := f.entries.map fun e => if e.is code subject then { e with count := satInc 255 e.count } else e }
  else if f.entries.length < 16 then
    { f with entries := f.entries ++ [⟨code, subject, 1⟩], attention := f.attention + 1 }
  else { f with overflow := satInc 255 f.overflow }

/-- A report that a condition has ended (R184). -/
def applyEnds (f : FaultUnit) (code : FaultCode) (subject : Nat) : FaultUnit :=
  if faultPresent f code subject then
    { f with entries := f.entries.filter fun e => !e.is code subject, attention := f.attention + 1 }
  else f

/-- One change. -/
def applyNews (f : FaultUnit) : FaultNews → FaultUnit
  | .arises code subject => applyArises f code subject
  | .ends code subject => applyEnds f code subject

/-- The sort key of a join: code number, then subject (R185). -/
def newsKey : FaultNews → Nat × Nat
  | .arises code subject => (faultNumber code, subject)
  | .ends code subject => (faultNumber code, subject)

/-- Insert a change in the order of R185. -/
def insertNews (n : FaultNews) : List FaultNews → List FaultNews
  | [] => [n]
  | m :: rest =>
    let a := newsKey n
    let b := newsKey m
    if a.1 < b.1 ∨ (a.1 = b.1 ∧ a.2 < b.2) then n :: m :: rest else m :: insertNews n rest

/-- Whether a change is an end. -/
def FaultNews.isEnd : FaultNews → Bool
  | .ends _ _ => true
  | .arises _ _ => false

/-- The changes of one event in the order in which the list takes them: all leaves, then the joins in the order of the codes
and of the subjects (R185). -/
def newsInOrder (l : List FaultNews) : List FaultNews :=
  l.filter (·.isEnd) ++ (l.filter fun n => !n.isEnd).foldr insertNews []

/-- The fault list takes all the changes the event handed. -/
def takeNews (f : FaultUnit) : FaultUnit :=
  let g := (newsInOrder f.handed).foldl applyNews f
  { g with handed := [] }

/-- The end of every event: the fault list takes the changes handed, and the pins follow the state. -/
def finish (s : State) : State :=
  let t := s.setFaults (takeNews s.faults)
  t.setPins (pinsOf t)

end Sys2Proof.Machine
end

