-- ==== Sys2Proof/Machine/HeatSource.lean ====
section
/-!
DEFINITION. The heat source controller (09_heat_source.md): flow target and duty, state moves, services, lockouts, the notices
it takes from the other blocks, and its timer commands.
-/

namespace Sys2Proof.Machine

/-! ## Flow target and duty (R178 to R180) -/

/-- The zones that take part in the HEATING target. -/
def callingRooms (p : Plan) (s : State) : List (Fin 12) := allZones.filter fun z => isRoom p z && s.reg[z].call

/-- The highest held target among the calling room zones (R179 stage 1). -/
def highestTarget (p : Plan) (s : State) : Int :=
  match (callingRooms p s).map fun z => s.clk.target[z] with
  | [] => 0
  | t :: rest => rest.foldl max t

/-- The highest demand among the calling room zones (R179 stage 5). -/
def highestDemand (p : Plan) (s : State) : Nat := ((callingRooms p s).map fun z => s.reg[z].demand).foldl max 0

/-- The heating curve: stages 2 to 6 of R179 on R, the outdoor value in use and Dmax. -/
def heatingCurve (h : Header) (r outdoor : Int) (dmax : Nat) : Int :=
  let o := clampInt outdoor (-640) 400
  let base := r + ((h.slope : Int) * (r - o)).tdiv 10
  let shifted := base + h.shift * 8
  let raised := shifted + ((dmax : Int) * h.dshift * 16).tdiv 255
  clampInt raised ((h.flowMin : Int) * 16) ((h.flowMax : Int) * 16)

/-- The flow target of a service before the cap (R179, R180). -/
def serviceTarget (p : Plan) (s : State) : Service → Int
  | .heating => heatingCurve p.header (highestTarget p s) (outdoorInUse p s) (highestDemand p s)
  | .cylinder => (p.header.cylFlow : Int) * 16
  | .frost => 480

/-- The effective cap applied to a target: CAP1 limits it to cap1_flow and CAP0 leaves it (R180). R180 states no target at CAP2,
which is a free value (assumption 10). -/
def capTarget (h : Header) (cap : CapLevel) (t : Int) : Int :=
  match cap with
  | .cap0 => t
  | .cap1 => min t ((h.cap1Flow : Int) * 16)
  | .cap2 => Config.cap2FlowTarget t ((h.cap1Flow : Int) * 16)

/-- The duty of a flow target (R180). -/
def dutyOf (t : Int) : Nat := (clampInt (((t - 160) * 255).tdiv 1280) 0 255).toNat

/-- The flow target and duty are computed again; with no served service they are 0 outside FIRING and keep their values in
FIRING (R180). -/
def recompute (p : Plan) (s : State) : State :=
  match served s with
  | some v =>
    let t := capTarget p.header (effectiveCap s) (serviceTarget p s v)
    s.setHeat { s.heat with flowTarget := t, duty := dutyOf t }
  | none =>
    if s.heat.state == .firing then s else s.setHeat { s.heat with flowTarget := 0, duty := 0 }

/-! ## State moves -/

/-- PUMP switches from off to on: the capture restarts (R114). -/
def pumpStart (p : Plan) (i : InputUnit) : InputUnit :=
  { i with capture := 0, pulses := 0, watch := flowLimit p }

/-- PUMP switches from on to off: the flow states clear (R115). -/
def pumpStop (i : InputUnit) : InputUnit := { i with flow := ⟨false, false, false⟩ }

/-- The event that a switch of PUMP hands to the input unit (R114, R164). -/
def pumpEdge (p : Plan) (before after : Bool) (i : InputUnit) : InputUnit :=
  if !before && after then pumpStart p i else if before && !after then pumpStop i else i

/-- A move of the heat source to the state `h`: a switch of PUMP is handed to the input unit (R164), a change of the effective cap
recomputes the flow target (R177), and with no served service the target is 0 outside FIRING (R180). -/
def move (p : Plan) (h : HeatSource) (s : State) : State :=
  let t := (s.setHeat h).setInp (pumpEdge p (pumpOn s.heat) (pumpOn h) s.inp)
  if (effectiveCap t != effectiveCap s) || (served t).isNone then recompute p t else t

/-- To OFF (R166, R167, R171): the timers of the pump are stopped and DIV is off. -/
def toOff (p : Plan) (s : State) : State :=
  move p { s.heat with state := .off, hold := .none, prerunExpiry := none, postrunExpiry := none, div := false } s

/-- To HELD with a reason, for a served service (R166, R167). -/
def toHeld (p : Plan) (v : Service) (r : HoldReason) (s : State) : State :=
  move p { s.heat with
    state := .held, hold := r, prerunExpiry := none, postrunExpiry := none, div := divPosition p v } s

/-- To PRERUN for a served service: the prerun timer starts, and PUMP is on (R167). -/
def toPrerun (p : Plan) (v : Service) (s : State) : State :=
  move p { s.heat with
    state := .prerun, hold := .none, prerunExpiry := some (s.clk.runSeconds + p.header.prerun), postrunExpiry := none,
    div := divPosition p v } s

/-- To FIRING: an ignition log entry joins and the burner start time is taken (R168). -/
def toFiring (p : Plan) (s : State) : State :=
  move p { s.heat with
    state := .firing, prerunExpiry := none, ignitions := s.heat.ignitions ++ [s.clk.runSeconds],
    burnerStart := s.clk.runSeconds } s

/-- To POSTRUN: a burner stop; the postrun timer starts and DIV keeps its position (R164, R171). -/
def toPostrun (p : Plan) (s : State) : State :=
  move p { s.heat with
    state := .postrun, lastStop := s.clk.runSeconds,
    postrunExpiry := some (s.clk.runSeconds + p.header.postrun * 60) } s

/-- The fault that matches a lockout cause (R172). -/
def causeFault : LockoutCause → Option FaultCode
  | .none => none
  | .noFlow => some .noFlow
  | .overheat => some .overheat
  | .boiler => some .boilerFault

/-- The fault of a lockout cause is reported. -/
def reportCause (c : LockoutCause) (s : State) : State :=
  match causeFault c with
  | some f => report f noSubject s
  | none => s

/-- The fault of a lockout cause leaves. -/
def endCause (c : LockoutCause) (s : State) : State :=
  match causeFault c with
  | some f => reportEnd f noSubject s
  | none => s

/-- The retry timer at the entry to a lockout: 900 s for NOFLOW with a retry count below 3 (R173). -/
def retryStart (c : LockoutCause) (count now : Nat) : Option Nat :=
  if c == .noFlow && decide (count < 3) then some (now + 900) else none

/-- The last-stop time after a move out of the state: a move out of FIRING is a burner stop (R164). -/
def stopTime (s : State) : Nat := if s.heat.state == .firing then s.clk.runSeconds else s.heat.lastStop

/-- To LOCKOUT with a cause (R172 to R175): from FIRING it is a burner stop; OVERHEAT runs the pump on and holds DIV. -/
def toLockout (p : Plan) (c : LockoutCause) (s : State) : State :=
  let now := s.clk.runSeconds
  reportCause c (move p { s.heat with
    state := .lockout, hold := .none, cause := c,
    lastStop := stopTime s,
    prerunExpiry := none, postrunExpiry := none,
    pumpRunExpiry := if c == .overheat then some (now + p.header.postrun * 60) else none,
    retryExpiry := retryStart c s.heat.retryCount now,
    div := c == .overheat && s.heat.div } s)

/-! ## Judging the state machine (R165 to R171) -/

/-- The heat source is judged for a served service and its permission. -/
def judgeServed (p : Plan) (v : Service) (s : State) : State :=
  let r := startBlock p s v
  match s.heat.state with
  | .off | .held => if r = .none then toPrerun p v s else toHeld p v r s
  | .prerun => if r = .none then s else toHeld p v r s
  | .firing => if minOnPassed p s && !pathHolds p s v then toPostrun p s else s
  | .postrun => if r = .none then toPrerun p v s else s
  | .lockout => s

/-- The heat source is judged with no served service. -/
def judgeIdle (p : Plan) (s : State) : State :=
  match s.heat.state with
  | .held | .prerun => toOff p s
  | .firing => if minOnPassed p s then toPostrun p s else s
  | .off | .postrun | .lockout => s

/-- Start permission and the conditions of FIRING are judged at an event that reaches the controller. -/
def judge (p : Plan) (s : State) : State :=
  match served s with
  | some v => judgeServed p v s
  | none => judgeIdle p s

/-- DIV follows the served service in HELD, PRERUN and FIRING (R162). -/
def followDiv (p : Plan) (s : State) : State :=
  match served s, s.heat.state with
  | some v, .held | some v, .prerun | some v, .firing => s.setHeat { s.heat with div := divPosition p v }
  | _, _ => s

/-! ## Services (R158, R159) -/

/-- Entries whose call has ended leave the list; then a pending service joins as head where the list is empty or its
head has lower priority (R158, R159). -/
def nextInService (p : Plan) (s : State) : List Service :=
  let kept := s.heat.inService.filter (calling p s)
  match pendingServices p s kept, kept with
  | [], _ => kept
  | q :: _, [] => [q]
  | q :: _, h :: rest => if servicePriority p q < servicePriority p h then q :: h :: rest else h :: rest

/-- Replace the in-service list; the cylinder timer becomes 0 when CYLINDER leaves it (R160). -/
def setInService (l : List Service) (s : State) : State :=
  s.setHeat { s.heat with
    inService := l
    cylTimer := if s.heat.inService.contains .cylinder && !l.contains .cylinder then 0 else s.heat.cylTimer }

/-- The calls are formed again: the list is brought up to date, DIV follows, the state machine is judged, and the flow target is
computed again if the served service changed or the event is a call notice (R156, R180). -/
def serviceEvent (notice : Bool) (p : Plan) (s : State) : State :=
  let t := judge p (followDiv p (setInService (nextInService p s) s))
  if notice || served t != served s then recompute p t else t

/-- A notice of a zone's heat call from the zone regulator (R136). -/
def callNotice (s : State) : State :=
  match s.plan.active with
  | none => s
  | some p => serviceEvent true p s

/-- A notice that a valve entered or left OPEN (R152, R163). -/
def valveNotice (s : State) : State :=
  match s.plan.active with
  | none => s
  | some p => judge p s

/-! ## The pipe and outdoor units (R157, R170, R177, R178) -/

/-- The FROST call judged on the pipe unit (R157). -/
def frostNow (p : Plan) (s : State) : Bool :=
  match pipeUsable p s, pipeHeld p s with
  | true, some t => if s.heat.frostCall then decide (t < 240) else decide (t < 64)
  | _, _ => false

/-- The FROST call is judged, and a change of it reaches the services. -/
def judgeFrost (p : Plan) (s : State) : State :=
  let c := frostNow p s
  if c = s.heat.frostCall then s else serviceEvent false p (s.setHeat { s.heat with frostCall := c })

/-- The overheat limit judged at a valid pipe reading (R170). -/
def judgeOverheat (p : Plan) (t : Int) (s : State) : State :=
  if s.heat.state = .firing ∧ (p.header.overheat : Int) * 16 ≤ t then toLockout p .overheat s else s

/-- A band is applied to the cap level; CAP2 stops a firing burner, and a changed level is an event at which permission is
judged (R165, R170, R177). -/
def applyBand (p : Plan) (band : Nat) (s : State) : State :=
  let t := s.setHeat { s.heat with cap := capAfter s.heat.cap band }
  let u := if effectiveCap t != effectiveCap s then recompute p t else t
  let w := if u.heat.state = .firing ∧ u.heat.cap = .cap2 then toPostrun p u else u
  if t.heat.cap = s.heat.cap then w else judge p w

/-- A valid pipe reading with its band: the overheat limit first, then the band, then the FROST call (R157, R170). A burner that such a
reading stops while it fires for FROST thus leaves DIV at FROST's position (DESIGN CHOICE, assumption 31). -/
def pipeReading (p : Plan) (t : Int) (band : Nat) (s : State) : State :=
  judgeFrost p (applyBand p band (judgeOverheat p t s))

/-- A firing burner without a usable pipe unit stops (R170). -/
def stopWithoutPipe (p : Plan) (s : State) : State :=
  if s.heat.state = .firing ∧ pipeUsable p s = false then toPostrun p s else s

/-- A change of the pipe unit's state (R157, R165, R170). A burner that fires for FROST stops before the FROST call ends, so DIV keeps
FROST's position in POSTRUN, also where another service is suspended behind it (DESIGN CHOICE, assumption 31). -/
def pipeStateChange (p : Plan) (s : State) : State := judge p (judgeFrost p (stopWithoutPipe p s))

/-- A valid reading or a state change of the outdoor unit: the hold starts at an entry into LOST with a held value and
ends outside LOST (R178); the flow target is computed again (R180). -/
def outdoorNotice (p : Plan) (enteredLost : Bool) (s : State) : State :=
  let hold := match outdoorUnit p with
    | none => none
    | some e =>
      let u := s.link.entries[e]
      if u.state == .lost then
        (if enteredLost && u.held.isSome then some s.clk.runSeconds else s.heat.outdoorHold)
      else none
  recompute p (s.setHeat { s.heat with outdoorHold := hold })

/-! ## Flow states and the boiler fault (R115, R167, R170, R172, R175) -/

/-- The input unit hands changed flow states as one event: late enters the effective cap, and no flow locks out a firing
burner. -/
def setFlow (p : Plan) (f : FlowStates) (s : State) : State :=
  if f = s.inp.flow then s else
    let t := s.setInp { s.inp with flow := f }
    let u := if effectiveCap t != effectiveCap s then recompute p t else t
    if f.noFlow = true ∧ u.heat.state = .firing then toLockout p .noFlow u else u

/-- A lockout ends: its fault leaves; with the boiler condition noted as active the heat source enters LOCKOUT with cause
BOILER at the same event, and else the state becomes OFF (R172). -/
def closeLockout (s : State) : HeatSource :=
  let noted := s.heat.boilerNoted
  { s.heat with
    state := if noted then .lockout else .off, cause := if noted then .boiler else .none,
    retryExpiry := none, pumpRunExpiry := none, div := false }

/-- A lockout ends while a plan is adopted, and R166 applies at once to a served service (R172). -/
def endLockout (p : Plan) (s : State) : State :=
  let t := move p (closeLockout s) (endCause s.heat.cause s)
  if s.heat.boilerNoted then report .boilerFault noSubject t else judge p t

/-- A lockout ends, whatever the plan status; with none adopted the pump is off and no service is served (R44, R181). -/
def leaveLockout (s : State) : State :=
  match s.plan.active with
  | some p => endLockout p s
  | none =>
    let t := (endCause s.heat.cause s).setHeat (closeLockout s)
    if s.heat.boilerNoted then report .boilerFault noSubject t else t

/-- BOILER FAULT ACTIVE (R172, R175). -/
def boilerActive (p : Plan) (s : State) : State :=
  let t := s.setHeat { s.heat with boilerNoted := true }
  if s.heat.state = .lockout then t else toLockout p .boiler t

/-- BOILER FAULT INACTIVE (R172, R175). -/
def boilerInactive (p : Plan) (s : State) : State :=
  let t := s.setHeat { s.heat with boilerNoted := false }
  if s.heat.state = .lockout ∧ s.heat.cause = .boiler then endLockout p t else t

/-- The boiler fault condition is handed to the heat source. -/
def boilerNotice (p : Plan) (active : Bool) (s : State) : State :=
  if active then boilerActive p s else boilerInactive p s

/-- A retained lockout cause puts the heat source back into LOCKOUT at load step 6: the pump and DIV stay off, and the retry timer
starts again for NOFLOW with a retry count below 3 (R162, R181). -/
def resumeLockout (s : State) : State :=
  if s.heat.cause = .none then s else
    reportCause s.heat.cause (s.setHeat { s.heat with
      state := .lockout, lastStop := stopTime s, pumpRunExpiry := none, div := false,
      retryExpiry := retryStart s.heat.cause s.heat.retryCount s.clk.runSeconds })

/-! ## Cylinder timer and block (R135, R160, R161) -/

/-- The cylinder zone's call: its latch set, mode RUNNING and no block (R135). -/
def cylinderCallNow (s : State) (z : Fin 12) : Bool :=
  s.reg[z].latch && s.reg[z].mode == .running && s.heat.cylBlock.isNone

/-- The zone regulator renews the cylinder zone's call at an event that may change it, and hands a change (R135, R136). -/
def renewCylinderCall (z : Fin 12) (s : State) : State :=
  let c := cylinderCallNow s z
  if c = s.reg[z].call then s else callNotice (setCall z c s)

/-- The call of the cylinder zone is renewed at a block start or end. -/
def cylinderBlockNotice (p : Plan) (s : State) : State :=
  match cylinderZone p with
  | some z => renewCylinderCall z s
  | none => s

/-- The cylinder timeout, taken as one event (R161). -/
def takeCylinderTimeout (p : Plan) (s : State) : State :=
  let t := report .cylTimeout noSubject (s.setHeat { s.heat with
    cylTimer := 0, cylBlock := some (s.clk.runSeconds + p.header.cylBlock * 60) })
  cylinderBlockNotice p (serviceEvent false p t)

/-- The condition of the cylinder timeout (R160). -/
def cylinderTimedOut (p : Plan) (s : State) : Bool :=
  served s == some .cylinder && heatingCalls p s && decide (p.header.cylMax * 60 ≤ s.heat.cylTimer)

/-! ## The timer commands -/

/-- A timer has expired: it runs, and its expiry has been reached (R48). -/
def expired (t : Option Nat) (now : Nat) : Bool :=
  match t with
  | some e => decide (e ≤ now)
  | none => false

/-- The prerun timer expires (R167). -/
def prerunExpires (s : State) : State :=
  match s.plan.active with
  | none => s
  | some p =>
    if s.heat.state = .prerun ∧ expired s.heat.prerunExpiry s.clk.runSeconds = true then
      if flowEstablished s then toFiring p s else toLockout p .noFlow s
    else s

/-- PRERUN_TIMER_EXPIRY (R167). -/
def execPrerunTimerExpiry (s : State) : Host.Outcome State Fault Refusal := .next (finish (prerunExpires s))

/-- The postrun timer expires: PUMP switches off, the state becomes OFF, and R166 applies at once (R171). -/
def postrunExpires (s : State) : State :=
  match s.plan.active with
  | none => s
  | some p =>
    if s.heat.state = .postrun ∧ expired s.heat.postrunExpiry s.clk.runSeconds = true then judge p (toOff p s) else s

/-- POSTRUN_TIMER_EXPIRY (R171). -/
def execPostrunTimerExpiry (s : State) : Host.Outcome State Fault Refusal := .next (finish (postrunExpires s))

/-- The lockout pump run ends: PUMP and DIV switch off (R162, R172, R174). -/
def pumpRunEnds (s : State) : State :=
  match s.plan.active with
  | none => s
  | some p =>
    if s.heat.state = .lockout ∧ expired s.heat.pumpRunExpiry s.clk.runSeconds = true then
      move p { s.heat with pumpRunExpiry := none, div := false } s
    else s

/-- LOCKOUT_PUMP_RUN_END (R174). -/
def execLockoutPumpRunEnd (s : State) : Host.Outcome State Fault Refusal := .next (finish (pumpRunEnds s))

/-- The NOFLOW retry timer expires: the retry count rises and the lockout ends (R173). -/
def retryExpires (s : State) : State :=
  if s.heat.state = .lockout ∧ expired s.heat.retryExpiry s.clk.runSeconds = true then
    leaveLockout (s.setHeat { s.heat with retryCount := s.heat.retryCount + 1 })
  else s

/-- RETRY_TIMER_EXPIRY (R173). -/
def execRetryTimerExpiry (s : State) : Host.Outcome State Fault Refusal := .next (finish (retryExpires s))

/-- min_off passes since the last stop, and permission is judged (R165). -/
def minOffPasses (s : State) : State :=
  match s.plan.active with
  | none => s
  | some p => if s.heat.lastStop + p.header.minOff * 60 ≤ s.clk.runSeconds then judge p s else s

/-- MIN_OFF_PASSING (R165). -/
def execMinOffPassing (s : State) : Host.Outcome State Fault Refusal := .next (finish (minOffPasses s))

/-- min_on passes since the burner start: a burner with no served service or no path moves to POSTRUN (R169). -/
def minOnPasses (s : State) : State :=
  match s.plan.active with
  | none => s
  | some p => if s.heat.state = .firing ∧ minOnPassed p s = true then judge p s else s

/-- MIN_ON_PASSING (R169). -/
def execMinOnPassing (s : State) : Host.Outcome State Fault Refusal := .next (finish (minOnPasses s))

/-- The entries of an ignition log younger than 3,600 s (R168). -/
def youngIgnitions (l : List Nat) (now : Nat) : List Nat := l.filter fun t => now < t + 3600

/-- Ignition log entries that reach the age 3,600 s leave, and permission is judged (R168). -/
def ignitionLeaves (s : State) : State :=
  let l := youngIgnitions s.heat.ignitions s.clk.runSeconds
  if l = s.heat.ignitions then s else
    let t := s.setHeat { s.heat with ignitions := l }
    match s.plan.active with
    | none => t
    | some p => judge p t

/-- IGNITION_ENTRY_LEAVES (R168). -/
def execIgnitionEntryLeaves (s : State) : Host.Outcome State Fault Refusal := .next (finish (ignitionLeaves s))

/-- The burner start time reaches the age 600 s while FIRING: the retry count becomes 0 (R168). -/
def firingRun (s : State) : State :=
  if s.heat.state = .firing ∧ s.heat.burnerStart + 600 ≤ s.clk.runSeconds then
    s.setHeat { s.heat with retryCount := 0 }
  else s

/-- FIRING_RUN_600S (R168). -/
def execFiringRun600s (s : State) : Host.Outcome State Fault Refusal := .next (finish (firingRun s))

/-- The cylinder timer reaches cyl_max with CYLINDER served and HEATING calling (R160, R161). -/
def cylinderTimeout (s : State) : State :=
  match s.plan.active with
  | none => s
  | some p => if cylinderTimedOut p s then takeCylinderTimeout p s else s

/-- CYLINDER_TIMEOUT (R161). -/
def execCylinderTimeout (s : State) : Host.Outcome State Fault Refusal := .next (finish (cylinderTimeout s))

/-- The cylinder block expires: CYL_TIMEOUT leaves, and the block end is handed to the zone regulator (R161). -/
def blockExpires (s : State) : State :=
  if expired s.heat.cylBlock s.clk.runSeconds then
    let t := reportEnd .cylTimeout noSubject (s.setHeat { s.heat with cylBlock := none })
    match s.plan.active with
    | none => t
    | some p => cylinderBlockNotice p t
  else s

/-- CYLINDER_BLOCK_EXPIRY (R161). -/
def execCylinderBlockExpiry (s : State) : Host.Outcome State Fault Refusal := .next (finish (blockExpires s))

/-- The outdoor hold reaches the age 3,600 s: the default outdoor temperature is used and the flow target computed again
(R178). -/
def outdoorHoldExpires (s : State) : State :=
  match s.heat.outdoorHold, s.plan.active with
  | some t, some p =>
    if t + 3600 ≤ s.clk.runSeconds then recompute p (s.setHeat { s.heat with outdoorHold := none }) else s
  | _, _ => s

/-- OUTDOOR_HOLD_EXPIRY (R178). -/
def execOutdoorHoldExpiry (s : State) : Host.Outcome State Fault Refusal := .next (finish (outdoorHoldExpires s))

end Sys2Proof.Machine
end

