-- ==== Sys2Proof/Machine/Schedule.lean ====
section
/-!
DEFINITION. Schedule levels from the week program, targets from the override list and the levels (R53 to R59), and the time
events RUN_SECOND, MINUTE_TICK and OVERRIDE_EXPIRY.
-/

namespace Sys2Proof.Machine

/-! ## Schedule levels -/

/-- The level of a switch point; the plan check admits the numbers 0 to 3 only (R28). -/
def pointLevel (w : SwitchPoint) : Level := (levelOf? w.level).getD .eco

/-- The last switch point at or before a minute, of points in ascending order (R53 step 1). -/
def lastPointAt (l : List SwitchPoint) (minute : Nat) : Option SwitchPoint :=
  (l.filter fun w => w.minute ≤ minute).getLast?

/-- The level of the last point of the first nonempty profile among the given days (R53 step 2). -/
def carriedLevel (p : Plan) (r : ZoneRec) : List Nat → Option Level
  | [] => none
  | d :: rest =>
    match (profileFor p r d).getLast? with
    | some w => some (pointLevel w)
    | none => carriedLevel p r rest

/-- The days d − 1, d − 2, and on to d − 7, each mod 7 (R53 step 2). -/
def earlierDays (d : Nat) : List Nat := [1, 2, 3, 4, 5, 6, 7].map fun k => (d + 7 - k) % 7

/-- The schedule level of a zone record at a clock day and minute (R53). -/
def scheduleLevel (p : Plan) (r : ZoneRec) (day minute : Nat) : Level :=
  match lastPointAt (profileFor p r day) minute with
  | some w => pointLevel w
  | none => (carriedLevel p r (earlierDays day)).getD .eco

/-- The schedule levels of all zones at the clock as it stands (R54); ECO while the clock is invalid (R55), none for a
zone that is not enabled (R59). -/
def levelsNow (p : Plan) (c : ClockUnit) : Vector (Option Level) 12 :=
  tabulate fun z =>
    if p.zones[z].enabled then
      some (if c.valid then scheduleLevel p p.zones[z] c.day c.minute else .eco)
    else none

/-! ## Targets -/

/-- The target of a level for a zone: its setpoint times 8 (R56). -/
def levelTarget (r : ZoneRec) (l : Level) : Int := (setpointOf r l : Int) * 8

/-- The target range of a zone (R57). -/
def targetRange (r : ZoneRec) : Int × Int :=
  if r.kind == .cylinder then (160, 1120) else ((r.frostSp : Int) * 8, 480)

/-- The target an override entry gives a zone (R57). -/
def overrideTarget (r : ZoneRec) : OverrideValue → Int
  | .level l => levelTarget r l
  | .setpoint half => clampInt ((half : Int) * 8) (targetRange r).1 (targetRange r).2

/-- The effective target of a zone (R57); 0 for a zone that is not enabled (R59). -/
def targetOf (p : Plan) (o : OverrideList) (level : Option Level) (z : Fin 12) : Int :=
  if p.zones[z].enabled then
    match winner o z with
    | some e => overrideTarget p.zones[z] e.value
    | none =>
      match level with
      | some l => levelTarget p.zones[z] l
      | none => 0
  else 0

/-- The effective targets are decided again (R58). -/
def decideTargets (s : State) : State :=
  match s.plan.active with
  | none => s
  | some p => s.setClk { s.clk with target := tabulate fun z => targetOf p s.ovr s.clk.level[z] z }

/-- The schedule levels are evaluated, and the targets decided again (R54, R58). -/
def evaluateSchedule (s : State) : State :=
  match s.plan.active with
  | none => s
  | some p => decideTargets (s.setClk { s.clk with level := levelsNow p s.clk })

/-- The override list changes, and the targets are decided again at the same event (R78). -/
def changeOverrides (o : OverrideList) (s : State) : State := decideTargets (s.setOvr o)

/-! ## RUN_SECOND -/

/-- The clock advances by one second, with its rollovers (R50). -/
def advanceClock (c : ClockUnit) : ClockUnit :=
  if c.second + 1 < 60 then { c with second := c.second + 1 }
  else if c.minute + 1 < 1440 then { c with second := 0, minute := c.minute + 1 }
  else if c.day + 1 < 7 then { c with second := 0, minute := 0, day := c.day + 1 }
  else { c with second := 0, minute := 0, day := 0 }

/-- Run seconds and the clock advance (R47, R50). -/
def advanceTime (c : ClockUnit) : ClockUnit := { advanceClock c with runSeconds := c.runSeconds + 1 }

/-- The tick counter advances and raises the minute tick at 60 (R49), for the blocks that have not taken it ahead of this run
second (R50); a run second that is a multiple of 20 raises the cycle start of one zone (R123). -/
def advanceTicks (c : ClockUnit) : ClockUnit :=
  let d := { c with cycleDue := c.runSeconds % 20 == 0 }
  if c.tickCounter + 1 < 60 then { d with tickCounter := c.tickCounter + 1 }
  else { d with
    tickCounter := 0, tickDue := c.tickDue || !c.tickAhead, ageDue := c.ageDue || !c.ageAhead, tickAhead := false,
    ageAhead := false }

/-- The cylinder timer rises while CYLINDER is served and HEATING calls (R160). -/
def countCylinder (p : Plan) (s : State) : State :=
  if served s = some .cylinder ∧ heatingCalls p s = true ∧ s.heat.cylTimer < p.header.cylMax * 60 then
    s.setHeat { s.heat with cylTimer := s.heat.cylTimer + 1 }
  else s

/-- A run second (R47). During a pin reset it advances run seconds and the clock only; during a power-on or supply reset
both stay at their reset values (R60). -/
def runSecond (s : State) : State :=
  match s.mem.inReset with
  | some .pin => s.setClk (advanceTime s.clk)
  | some _ => s
  | none =>
    let t := s.setClk (advanceTicks (advanceTime s.clk))
    match s.plan.active with
    | none => t
    | some p => countCylinder p t

/-- RUN_SECOND (R47). -/
def execRunSecond (s : State) : Host.Outcome State Fault Refusal := .next (finish (runSecond s))

/-! ## MINUTE_TICK and OVERRIDE_EXPIRY -/

/-- The override list lowers the remaining minutes of every entry by 1, and the entries that reach 0 leave together (R79). -/
def ageEntries (o : OverrideList) : OverrideList :=
  { o with entries := (o.entries.map fun e => { e with remaining := e.remaining - 1 }).filter fun e => e.remaining != 0 }

/-- The override list takes the minute tick that the last run second raised (R79). -/
def ageOverrides (s : State) : State :=
  changeOverrides (ageEntries s.ovr) (s.setClk { s.clk with ageDue := false })

/-- The override list takes the minute tick of the coming run second ahead of it. -/
def ageAheadOverrides (s : State) : State :=
  changeOverrides (ageEntries s.ovr) (s.setClk { s.clk with ageAhead := true })

/-- The coming run second brings the minute tick (R49). -/
def tickComes (s : State) : Bool := decide (60 ≤ s.clk.tickCounter + 1)

/-- The override list may take the tick of the coming run second, not having taken it. -/
def ageMayLead (s : State) : Bool := tickComes s && !s.clk.ageDue && !s.clk.ageAhead

/-- The minute tick: the override list ages, unless it has taken this tick already, and the schedule levels are evaluated
(R49, R54). A tick and the run second that rolls the clock may be taken in either order (R50): a tick that is not due is that of
the coming run second, taken first, and evaluates the minute before the roll. -/
def minuteTick (s : State) : State :=
  if s.clk.tickDue then
    let t := if s.clk.ageDue then ageOverrides s else s
    evaluateSchedule (t.setClk { t.clk with tickDue := false })
  else if tickComes s && !s.clk.tickAhead then
    let t := if ageMayLead s then ageAheadOverrides s else s
    evaluateSchedule (t.setClk { t.clk with tickAhead := true })
  else s

/-- MINUTE_TICK (R49). -/
def execMinuteTick (s : State) : Host.Outcome State Fault Refusal := .next (finish (minuteTick s))

/-- An entry expires at the minute tick (R79). -/
def entryExpires (o : OverrideList) : Bool := o.entries.any fun e => e.remaining ≤ 1

/-- The override list takes the minute tick before the schedule unit does, and at least one entry expires at it (R79). -/
def overrideExpiry (s : State) : State :=
  if s.clk.ageDue && entryExpires s.ovr then ageOverrides s
  else if ageMayLead s && entryExpires s.ovr then ageAheadOverrides s
  else s

/-- OVERRIDE_EXPIRY (R79). -/
def execOverrideExpiry (s : State) : Host.Outcome State Fault Refusal := .next (finish (overrideExpiry s))

end Sys2Proof.Machine
end

