-- ==== Sys2Proof/Machine/Requests.lean ====
section
/-!
DEFINITION. The request unit and the override list (04_requests_and_overrides.md): the producer count, the taking and completion
of requests, and the six request commands.
-/

namespace Sys2Proof.Machine

/-! ## The producer count (R62, R63) -/

/-- The claim of a producer count: (p − q) mod 256 (R62). -/
def claim (p q : Byte) : Nat := (p - q).toNat

/-- A producer count is adopted: within 16 of the consumer count, and with a RELOAD in flight not equal to it (R62). -/
def producerAdopted (r : RequestUnit) (p : Byte) : Bool :=
  decide (claim p r.consumer ≤ 16) && (r.inFlight.isNone || decide (1 ≤ claim p r.consumer))

/-- A landed producer count (R62, R63); ignored while the unit is UNSYNCHRONISED (R67). -/
def landProducer (p : Byte) (s : State) : State :=
  if !s.req.synced then s
  else if producerAdopted s.req p then reportEnd .ringOverrun noSubject (s.setReq { s.req with producer := p })
  else report .ringOverrun noSubject (s.setReq { s.req with overrun := satInc 255 s.req.overrun })

/-! ## Taking and completing (R64, R65) -/

/-- The three conditions of R64 hold, so that the request with the consumer count is to be taken. -/
def requestDue (s : State) : Bool := s.req.synced && s.req.producer != s.req.consumer && s.req.inFlight.isNone

/-- A request completes: its result is written, the consumer count advances and the attention number rises (R65). -/
def complete (tag : Byte) (status : Status) (detail : Nat) (s : State) : State :=
  let q := s.req.consumer
  raiseAttention (s.setReq { s.req with
    results := updAt s.req.results (Fin.ofNat 16 q.toNat) fun _ => ⟨tag, status, detail, q⟩
    consumer := q + 1
    inFlight := none })

/-- The taking of a request of one kind: it happens where a request is due and the slot holds that kind. -/
def taking (k : RequestKind) (f : State → State) (s : State) : State :=
  if requestDue s && slotKind s == k then f s else s

/-- A request that needs an adopted plan answers NOPLAN without one (R69). -/
def withPlan (f : Plan → State → State) (s : State) : State :=
  match s.plan.active with
  | none => complete (slotTag s) .noPlan 0 s
  | some p => f p s

/-! ## SET CLOCK (R52, R70) -/

/-- The clock takes a day and a minute, and its valid flag is set (R51, R52). -/
def setClockTo (day minute : Nat) (s : State) : State :=
  let t := s.setClk { s.clk with day := day, minute := minute, second := 0, valid := true }
  evaluateSchedule (if s.clk.valid then t else reportEnd .clockInvalid noSubject t)

/-- SET CLOCK at its taking (R70). -/
def takeSetClock (s : State) : State :=
  let tag := slotTag s
  let day := slotByte s 2
  let minute := le16 (slotByte s 3) (slotByte s 4)
  if 6 < day then complete tag .badParam 1 s
  else if 1439 < minute then complete tag .badParam 2 s
  else complete tag .done 0 (setClockTo day minute s)

/-- SET_CLOCK (R70). -/
def execSetClock (s : State) : Host.Outcome State Fault Refusal := .next (finish (taking .setClock takeSetClock s))

/-! ## ADD OVERRIDE (R71, R76) -/

/-- The first id after the last assigned one that no entry carries, counting 1 to 255 and again from 1 (R76). -/
def nextId (o : OverrideList) : Nat :=
  (((List.range 255).map fun k => (o.lastId + k) % 255 + 1).find? fun i => !o.entries.any fun e => e.id == i).getD 0

/-- The mode and value of an ADD OVERRIDE, or the number of the first of the two out of range (R71). -/
def overrideValue (mode value : Nat) : Except Nat OverrideValue :=
  match mode with
  | 1 =>
    match levelOf? value with
    | some l => .ok (.level l)
    | none => .error 4
  | 2 => .ok (.setpoint value)
  | _ => .error 3

/-- The parameters of an ADD OVERRIDE judged in order: zone mask, priority, mode, value, duration (R69, R71). -/
def overrideParams (p : Plan) (s : State) : Except Nat (BitVec 12 × Nat × OverrideValue × Nat) :=
  let mask := BitVec.ofNat 12 (le16 (slotByte s 2) (slotByte s 3)) &&& enabledMask p
  let priority := slotByte s 4
  let duration := le16 (slotByte s 7) (slotByte s 8)
  if mask = 0 then .error 1
  else if 7 < priority then .error 2
  else
    match overrideValue (slotByte s 5) (slotByte s 6) with
    | .error n => .error n
    | .ok v => if duration = 0 then .error 5 else .ok (mask, priority, v, duration)

/-- A new entry joins as the most recent, with a new id (R71, R75, R76). -/
def joinOverride (mask : BitVec 12) (priority : Nat) (v : OverrideValue) (duration : Nat) (o : OverrideList) : OverrideList :=
  { entries := o.entries ++ [⟨nextId o, mask, priority, v, duration⟩], lastId := nextId o }

/-- ADD OVERRIDE at its taking (R71). -/
def takeAddOverride (p : Plan) (s : State) : State :=
  let tag := slotTag s
  match overrideParams p s with
  | .error n => complete tag .badParam n s
  | .ok (mask, priority, v, duration) =>
    if 16 ≤ s.ovr.entries.length then complete tag .full 0 s
    else complete tag .done (nextId s.ovr) (changeOverrides (joinOverride mask priority v duration s.ovr) s)

/-- ADD_OVERRIDE (R71). -/
def execAddOverride (s : State) : Host.Outcome State Fault Refusal :=
  .next (finish (taking .addOverride (withPlan takeAddOverride) s))

/-! ## CANCEL OVERRIDE (R72) -/

/-- CANCEL OVERRIDE at its taking (R72). -/
def takeCancelOverride (_p : Plan) (s : State) : State :=
  let tag := slotTag s
  let id := slotByte s 2
  if id = 0 then
    complete tag .done s.ovr.entries.length (changeOverrides { s.ovr with entries := [] } s)
  else if s.ovr.entries.any fun e => e.id == id then
    complete tag .done 1 (changeOverrides { s.ovr with entries := s.ovr.entries.filter fun e => e.id != id } s)
  else complete tag .notFound id s

/-- CANCEL_OVERRIDE (R72). -/
def execCancelOverride (s : State) : Host.Outcome State Fault Refusal :=
  .next (finish (taking .cancelOverride (withPlan takeCancelOverride) s))

/-! ## CLEAR LOCKOUT (R73, R176) -/

/-- The number of a lockout cause (R192). -/
def causeNumber : LockoutCause → Nat
  | .none => 0
  | .noFlow => 1
  | .overheat => 2
  | .boiler => 3

/-- An OVERHEAT lockout can be cleared: the pipe unit is usable and its held value is below the limit less 160 (R174). -/
def coolEnough (p : Plan) (s : State) : Bool :=
  match pipeUsable p s, pipeHeld p s with
  | true, some v => decide (v < (p.header.overheat : Int) * 16 - 160)
  | _, _ => false

/-- CLEAR LOCKOUT at its taking (R176). -/
def takeClearLockout (p : Plan) (s : State) : State :=
  let tag := slotTag s
  if s.heat.state = .lockout then
    let detail := causeNumber s.heat.cause
    match s.heat.cause with
    | .noFlow => complete tag .done detail (endLockout p (s.setHeat { s.heat with retryCount := 0 }))
    | .overheat =>
      if coolEnough p s then complete tag .done detail (endLockout p s) else complete tag .tooHot detail s
    | .boiler => complete tag .tooHot detail s
    | .none => complete tag .done 0 s
  else complete tag .done 0 s

/-- CLEAR_LOCKOUT (R176). -/
def execClearLockout (s : State) : Host.Outcome State Fault Refusal :=
  .next (finish (taking .clearLockout (withPlan takeClearLockout) s))

/-! ## RELOAD (R19, R31, R66) -/

/-- RELOAD at its taking: a reload begins at step 1, a running check is abandoned, and the request stays in flight. -/
def takeReload (s : State) : State :=
  let t := s.setMem { s.mem with busy := true, seq := .waiting, reload := true }
  let u := t.setPlan { t.plan with check := .idle }
  u.setReq { u.req with inFlight := some ⟨s.req.consumer, slotTag s⟩ }

/-- RELOAD (R66). -/
def execReload (s : State) : Host.Outcome State Fault Refusal := .next (finish (taking .reload takeReload s))

/-! ## Unknown kinds (R69) -/

/-- A request of unknown kind completes with BADKIND and its kind as detail (R69). -/
def takeUnknown (s : State) : State :=
  match requestDue s, slotKind s with
  | true, .unknown k => complete (slotTag s) .badKind k s
  | _, _ => s

/-- UNKNOWN_KIND (R69). -/
def execUnknownKind (s : State) : Host.Outcome State Fault Refusal := .next (finish (takeUnknown s))

end Sys2Proof.Machine
end

