-- ==== Sys2Proof/Machine/Actuator.lean ====
section
/-!
DEFINITION. The actuator driver (08_actuator_drive.md): valves, energising and de-energising, wait lists, the arbiter, requests,
withdrawals, and its commands.
-/

namespace Sys2Proof.Machine

/-! ## Valves (R151) -/

/-- A valve starts a movement at `now`; a movement of 0 s ends at its start. -/
def startMove (moving done : ValveState) (now lasts : Nat) (d : ZoneDrive) : ZoneDrive :=
  if lasts = 0 then { d with valve := done, moveStart := now, moveEnd := now }
  else { d with valve := moving, moveStart := now, moveEnd := now + lasts }

/-- The energise event of a valve. -/
def valveEnergise (openTime now : Nat) (d : ZoneDrive) : ZoneDrive :=
  match d.valve with
  | .closed => startMove .opening .open now openTime d
  | .closing => startMove .opening .open now (min (now - d.moveStart) openTime) d
  | .opening | .open => d

/-- The de-energise event of a valve. -/
def valveDeenergise (closeTime now : Nat) (d : ZoneDrive) : ZoneDrive :=
  match d.valve with
  | .open => startMove .closing .closed now closeTime d
  | .opening => startMove .closing .closed now (min (now - d.moveStart) closeTime) d
  | .closing | .closed => d

/-! ## Energising and de-energising -/

/-- De-energise a zone: the interval of energisation is added up (R153), the request state becomes `r`, and the valve takes a
de-energise event under the zone record given. -/
def deenergiseRaw (rec : ZoneRec) (r : RequestState) (z : Fin 12) (s : State) : State :=
  let t := energisedSoFar s z
  s.updDrv z fun d => valveDeenergise rec.closeTime s.clk.runSeconds { d with request := r, energisedTime := t }

/-- Energise a zone at a grant: request state, inrush entry, last grant time and valve (R146). The zone has left the wait list. -/
def energiseRaw (p : Plan) (z : Fin 12) (s : State) : State :=
  let now := s.clk.runSeconds
  let t := s.updDrv z fun d => valveEnergise p.zones[z].openTime now
    { d with request := .energised, lastGrant := some now, energisedSince := now }
  t.updGrp (zoneGroup p z) fun g => { g with inrush := g.inrush ++ [now] }

/-- Take an action on one zone's drive, and hand the heat source a notice if the zone's valve entered or left OPEN (R152). -/
def withValveNotice (z : Fin 12) (f : State → State) (s : State) : State :=
  let t := f s
  if (t.drv[z].valve == .open) != (s.drv[z].valve == .open) then valveNotice t else t

/-! ## The wait list (R143) -/

/-- Whether a last grant time is older than another; "never granted" is older than every time (R48). -/
def grantOlder : Option Nat → Option Nat → Bool
  | none, none => false
  | none, some _ => true
  | some _, none => false
  | some a, some b => decide (a < b)

/-- Whether zone `a` stands before zone `b` in a wait list: priority, then last grant time, then zone number. -/
def waitsBefore (p : Plan) (s : State) (a b : Fin 12) : Bool :=
  let pa := p.zones[a].priority
  let pb := p.zones[b].priority
  let ga := s.drv[a].lastGrant
  let gb := s.drv[b].lastGrant
  if pa ≠ pb then decide (pa < pb) else if ga ≠ gb then grantOlder ga gb else decide (a.val < b.val)

/-- Insert a zone into a wait list at the place its keys give. -/
def insertWaiting (p : Plan) (s : State) (z : Fin 12) : List (Fin 12) → List (Fin 12)
  | [] => [z]
  | y :: rest => if waitsBefore p s z y then z :: y :: rest else y :: insertWaiting p s z rest

/-- A zone leaves its group's wait list. -/
def leaveWaitList (g : Fin 2) (z : Fin 12) (s : State) : State :=
  s.updGrp g fun q => { q with waitList := q.waitList.filter (· != z) }

/-- A zone takes its place in its group's wait list, at most once. -/
def joinWaitList (p : Plan) (g : Fin 2) (z : Fin 12) (s : State) : State :=
  s.updGrp g fun q => { q with waitList := insertWaiting p s z (q.waitList.filter (· != z)) }

/-- The request state of a zone becomes IDLE. -/
def requestIdle (z : Fin 12) (s : State) : State := s.updDrv z fun d => { d with request := .idle }

/-- A waiting zone leaves its wait list and becomes IDLE (R140, R148, R149). -/
def dropWaiting (g : Fin 2) (z : Fin 12) (s : State) : State := requestIdle z (leaveWaitList g z s)

/-! ## The arbiter (R144 to R146) -/

/-- The head may be granted (R145). -/
def mayGrant (p : Plan) (s : State) (g : Fin 2) (z : Fin 12) : Bool :=
  decide (energisedCount p s g + outputCount p.zones[z].mask ≤ p.groups[g].maxEnergised)
    && decide (s.grp[g].inrush.length < p.groups[g].inrushMax)
    && !s.inp.supplyLow[g]

/-- A grant (R146); a valve that enters OPEN at once is handed to the heat source (R152). -/
def grant (p : Plan) (g : Fin 2) (z : Fin 12) (s : State) : State := withValveNotice z (energiseRaw p z) (leaveWaitList g z s)

/-- A try of a group's head, with fuel for the zones of its wait list (R144). -/
def tryHeads (p : Plan) (g : Fin 2) : Nat → State → State
  | 0, s => s
  | fuel + 1, s =>
    match s.grp[g].waitList with
    | [] => s
    | z :: _ =>
      if requestEnded s z then tryHeads p g fuel (dropWaiting g z s)
      else if mayGrant p s g z then tryHeads p g fuel (grant p g z s)
      else s

/-- The arbiter of a group tries its head (R144). -/
def arbiterTry (p : Plan) (g : Fin 2) (s : State) : State :=
  tryHeads p g s.grp[g].waitList.length s

/-- De-energise a zone, with the notice of its valve and the try of its group that a de-energisation is an occasion for. The notice that
the valve left OPEN reaches the heat source before the try (DESIGN CHOICE, assumption 44). -/
def deenergise (p : Plan) (z : Fin 12) (s : State) : State :=
  arbiterTry p (zoneGroup p z) (withValveNotice z (deenergiseRaw p.zones[z] .idle z) s)

/-- A waiting zone departs; the departure of the head is an occasion for the arbiter (R144). -/
def depart (p : Plan) (z : Fin 12) (s : State) : State :=
  let g := zoneGroup p z
  let t := dropWaiting g z s
  if s.grp[g].waitList.head? = some z then arbiterTry p g t else t

/-- A zone joins its group's wait list or has its request replaced, and the arbiter tries its head (R140, R144). -/
def await (p : Plan) (z : Fin 12) (s : State) : State :=
  let g := zoneGroup p z
  arbiterTry p g (joinWaitList p g z (s.updDrv z fun d => { d with request := .waiting }))

/-! ## Requests and withdrawals (R140, R149) -/

/-- The requested end of an on-time from a cycle start: 240 is "to cycle end" (R140). -/
def requestedEnd (start on : Nat) : RequestedEnd := if on = 240 then .toCycleEnd else .at (start + on)

/-- A room zone's request for its cycle (R140). -/
def actuatorRequest (p : Plan) (z : Fin 12) (on : Nat) (s : State) : State :=
  let start := s.clk.runSeconds
  let t := s.updDrv z fun d => { d with cycleStart := some start, reqEnd := requestedEnd start on }
  match t.drv[z].request, decide (on = 0) with
  | .idle, true => t
  | .waiting, true => depart p z t
  | .energised, true => deenergise p z t
  | .energised, false => t
  | .idle, false | .waiting, false => await p z t

/-- A withdrawal (R149). -/
def withdraw (p : Plan) (z : Fin 12) (s : State) : State :=
  match s.drv[z].request with
  | .idle => s
  | .waiting => depart p z s
  | .energised => deenergise p z s

/-- The supply-low condition of a group becomes inactive: the arbiter tries its head (R150). -/
def supplyRestored (p : Plan) (g : Fin 2) (s : State) : State := arbiterTry p g s

/-! ## The commands -/

/-- An energised zone reaches its requested end, which is not "to cycle end" (R142). -/
def endEvent (z : Fin 12) (s : State) : State :=
  match s.plan.active, s.drv[z].request, s.drv[z].reqEnd with
  | some p, .energised, .at t => if t ≤ s.clk.runSeconds then deenergise p z s else s
  | _, _, _ => s

/-- END_EVENT (R142). -/
def execEndEvent (zone : Fin 12) (s : State) : Host.Outcome State Fault Refusal := .next (finish (endEvent zone s))

/-- A waiting request reaches its requested end (R148). -/
def waitingExpiry (z : Fin 12) (s : State) : State :=
  match s.plan.active, s.drv[z].request with
  | some p, .waiting => if requestEnded s z then depart p z s else s
  | _, _ => s

/-- WAITING_REQUEST_EXPIRY (R148). -/
def execWaitingRequestExpiry (zone : Fin 12) (s : State) : Host.Outcome State Fault Refusal :=
  .next (finish (waitingExpiry zone s))

/-- The entries of an inrush log younger than the window (R147). -/
def youngInrush (l : List Nat) (window now : Nat) : List Nat := l.filter fun t => now < t + window

/-- Inrush entries reach the age inrush_window and leave together; the arbiter tries its head (R147). -/
def inrushLeaves (g : Fin 2) (s : State) : State :=
  match s.plan.active with
  | none => s
  | some p =>
    let l := youngInrush s.grp[g].inrush p.groups[g].inrushWindow s.clk.runSeconds
    if l = s.grp[g].inrush then s else arbiterTry p g (s.updGrp g fun q => { q with inrush := l })

/-- INRUSH_ENTRY_LEAVES (R147). -/
def execInrushEntryLeaves (group : Fin 2) (s : State) : Host.Outcome State Fault Refusal :=
  .next (finish (inrushLeaves group s))

/-- The valve at the end of its movement (R151). -/
def moveEnds (now : Nat) (d : ZoneDrive) : ZoneDrive :=
  if d.moveEnd ≤ now then
    match d.valve with
    | .opening => { d with valve := .open }
    | .closing => { d with valve := .closed }
    | .open | .closed => d
  else d

/-- A valve movement ends, with the notice of a valve that enters OPEN (R151, R152). -/
def movementEnd (z : Fin 12) (s : State) : State :=
  withValveNotice z (fun t => t.updDrv z (moveEnds t.clk.runSeconds)) s

/-- MOVEMENT_END (R151). -/
def execMovementEnd (zone : Fin 12) (s : State) : Host.Outcome State Fault Refusal := .next (finish (movementEnd zone s))

end Sys2Proof.Machine
end

