-- ==== Sys2Proof/Machine/Zones.lean ====
section
/-!
DEFINITION. The zone regulator (07_zone_regulation.md): the proportional-integral law, the cylinder latch, modes, window events,
sensor notices, heat calls, and CYCLE_START.
-/

namespace Sys2Proof.Machine

/-! ## The proportional-integral law (R127 to R130) -/

/-- The error after its clamp and the deadband: stages 2 and 3 of R127. -/
def errorOf (r : ZoneRec) (target measured : Int) : Int :=
  let e := clampInt (target - measured) (-256) 256
  if e.natAbs ≤ r.deadband then 0 else e

/-- The proportional term P (R128 stage 4). -/
def proportional (r : ZoneRec) (e : Int) : Int := (e * r.kp).tdiv 16

/-- The integral step ΔI, which a starved zone does not take upward (R128 stage 5, R129 stage 6). -/
def integralStep (r : ZoneRec) (starved : Bool) (e : Int) : Int :=
  let d := (e * r.ki).tdiv 16
  if 0 < d ∧ starved = true then 0 else d

/-- The integral after its step (R129 stage 7). -/
def integralAfter (i : Nat) (step : Int) : Nat := (clampInt ((i : Int) + step) 0 4080).toNat

/-- The demand from P and the new integral (R130 stage 8). -/
def demandOf (prop : Int) (i : Nat) : Nat := (clampInt (prop + ((i / 16 : Nat) : Int)) 0 255).toNat

/-- The on-time of a demand (R130 stages 9 and 10). -/
def onTimeOf (r : ZoneRec) (demand : Nat) : Nat :=
  let on := (demand * 240 + 127) / 255
  if 0 < on ∧ on < r.minOn then r.minOn else on

/-- The demand part of a room zone's cycle start by mode (R127 to R131). In RUNNING the entry is ONLINE or STALE and has a
held value; a state without one counts as an exact match (assumption 11). -/
def regulate (r : ZoneRec) (target : Int) (held : Option Int) (g : ZoneReg) : ZoneReg :=
  match g.mode with
  | .running =>
    let e := errorOf r target (held.getD target)
    let i := integralAfter g.integral (integralStep r g.starved e)
    let d := demandOf (proportional r e) i
    { g with measured := held, integral := i, demand := d, onTime := onTimeOf r d }
  | .fallback => { g with measured := held, demand := r.fallback, onTime := onTimeOf r r.fallback }
  | .window => { g with measured := held, demand := 0, onTime := 0 }
  | .disabled => g

/-- The cylinder latch at a cycle start in RUNNING (R134). -/
def latchAfter (r : ZoneRec) (target : Int) (held : Option Int) (latch : Bool) : Bool :=
  match held with
  | none => latch
  | some v => if latch then decide (v < target) else decide (v < target - (r.hysteresis : Int) * 16)

/-! ## The cycle start (R123) -/

/-- The energised time of the cycle that ends is below the allowance (R125). -/
def shortfall (s : State) (z : Fin 12) : Bool := decide (energisedSoFar s z < s.reg[z].allowance)

/-- The heat source is FIRING for HEATING (R126). -/
def heatingFires (s : State) : Bool := s.heat.state == .firing && served s == some .heating

/-- Step 1 of R123 for a room zone: the starved flag is settled, and the energised time starts again (R126, R153). -/
def settleStarved (z : Fin 12) (s : State) : State :=
  let f := shortfall s z || !heatingFires s
  (s.updReg z fun g => { g with starved := f }).updDrv z fun d => { d with energisedTime := 0 }

/-- Step 2 of R123 for a room zone: measured value, demand, on-time and cycle allowance (R125, R131). -/
def computeDemand (p : Plan) (z : Fin 12) (s : State) : State :=
  s.updReg z fun g =>
    let n := regulate p.zones[z] s.clk.target[z] (heldOf s p.zones[z].sensor) g
    { n with allowance := n.onTime }

/-- Step 4 of R123 for a room zone: the call is judged (R133), and a change, or a zone that calls, is handed to the heat source
(R136). -/
def judgeRoomCall (p : Plan) (z : Fin 12) (s : State) : State :=
  let g := s.reg[z]
  let c := decide (p.header.callThreshold ≤ g.demand) && (g.mode == .running || g.mode == .fallback)
  let t := setCall z c s
  if c || g.call then callNotice t else t

/-- The cycle start of an enabled room zone. -/
def roomCycle (p : Plan) (z : Fin 12) (s : State) : State :=
  let t := computeDemand p z (settleStarved z s)
  judgeRoomCall p z (actuatorRequest p z t.reg[z].onTime t)

/-- The cycle start of an enabled cylinder zone: the measured value, the latch in RUNNING, and the call (R131, R134, R135). -/
def cylinderCycle (p : Plan) (z : Fin 12) (s : State) : State :=
  let held := heldOf s p.zones[z].sensor
  let t := s.updReg z fun g => { g with
    measured := held, integral := 0, demand := 0, onTime := 0, starved := false,
    latch := if g.mode == .running then latchAfter p.zones[z] s.clk.target[z] held g.latch else g.latch }
  renewCylinderCall z t

/-- The cycle start of zone n is due: the run second just taken brought run seconds to s with s mod 240 = 20 × n (R123). -/
def cycleDue (s : State) (z : Fin 12) : Bool := s.clk.cycleDue && s.clk.runSeconds % 240 == 20 * z.val

/-- The cycle start of a zone (R123). -/
def cycleStart (z : Fin 12) (s : State) : State :=
  if cycleDue s z then
    let t := s.setClk { s.clk with cycleDue := false }
    match s.plan.active with
    | none => t
    | some p => if isRoom p z then roomCycle p z t else if isCylinder p z then cylinderCycle p z t else t
  else s

/-- CYCLE_START (R123). -/
def execCycleStart (zone : Fin 12) (s : State) : Host.Outcome State Fault Refusal := .next (finish (cycleStart zone s))

/-! ## Modes (R118 to R121) -/

/-- The mode R118 gives an enabled zone. -/
def modeFor (windowOpen bad : Bool) : ZoneMode := if windowOpen then .window else if bad then .fallback else .running

/-- A zone's mode changes; entering and leaving FALLBACK are reported (R118). -/
def setMode (z : Fin 12) (m : ZoneMode) (s : State) : State :=
  let old := s.reg[z].mode
  let t := s.updReg z fun g => { g with mode := m }
  if old != .fallback && m == .fallback then report .zoneFallback z.val t
  else if old == .fallback && m != .fallback then reportEnd .zoneFallback z.val t
  else t

/-- The regulator's part of a window OPEN event: mode, demand, on-time, call and cycle allowance (R120). -/
def openRegulator (z : Fin 12) (s : State) : State :=
  let time := energisedSoFar s z
  (setMode z .window s).updReg z fun g => { g with demand := 0, onTime := 0, call := false, allowance := time }

/-- A window OPEN event of an enabled zone (R120): a room zone's request is withdrawn, and an ended call is handed over. -/
def windowOpenEvent (p : Plan) (z : Fin 12) (s : State) : State :=
  let called := s.reg[z].call
  let t := openRegulator z s
  let u := if isRoom p z then withdraw p z t else t
  if called then callNotice u else u

/-- A window CLOSED event of an enabled zone (R121); a cylinder zone's call is formed again (R135). -/
def windowClosedEvent (p : Plan) (z : Fin 12) (s : State) : State :=
  let m := modeFor false (sensorBad s p.zones[z].sensor)
  let t := setMode z m (s.updReg z fun g => { g with
    demand := 0, onTime := 0, latch := if m == .fallback then false else g.latch })
  if isCylinder p z then renewCylinderCall z t else t

/-- The mode of an enabled zone after its sensor entry entered or left SEARCHING or LOST (R119); entry into FALLBACK clears a
cylinder latch (R134). A FALLBACK zone whose entry leaves LOST before its OPEN event is RUNNING between the two, as R119 says, where
R122's table gives WINDOW after the first event whichever is taken first (DESIGN CHOICE, assumption 46). -/
def sensorMode (p : Plan) (z : Fin 12) (s : State) : State :=
  let bad := sensorBad s p.zones[z].sensor
  match s.reg[z].mode, bad with
  | .running, true => setMode z .fallback (s.updReg z fun g => { g with latch := false })
  | .fallback, false => setMode z .running s
  | _, _ => s

/-- A sensor notice of one zone (R119, R135). -/
def sensorNotice (p : Plan) (z : Fin 12) (s : State) : State :=
  let t := sensorMode p z s
  if isCylinder p z then renewCylinderCall z t else t

end Sys2Proof.Machine
end

