-- ==== Sys2Proof/Machine/Inputs.lean ====
section
/-!
DEFINITION. The input unit (06_inputs_and_flow_capture.md): sampling and debounce, roles, window states, boiler fault and supply
low, flow capture and flow states, and their commands.
-/

namespace Sys2Proof.Machine

/-! ## Conditions of the roles (R107, R109, R111, R112) -/

/-- A debounced level equals the active level of an entry (R107). -/
def levelActive (a : ActiveLevel) (high : Bool) : Bool :=
  match a with
  | .high => high
  | .low => !high
  | .other _ => false

/-- The active flag of an input; clear while no role is given (R107). -/
def activeFlag (r : InputRec) (high : Bool) : Bool := r.role != .none && levelActive r.active high

/-- The window count of a zone is at least 1 (R109). -/
def windowCounted (p : Plan) (s : State) (z : Fin 12) : Bool :=
  allInputs.any fun k => p.zones[z].windowMask.getLsbD k.val && p.inputs[k].role == .window && s.inp.pins[k].active

/-- The boiler fault condition (R111). -/
def boilerCondition (p : Plan) (s : State) : Bool :=
  allInputs.any fun k => p.inputs[k].role == .boilerFault && s.inp.pins[k].active

/-- The supply-low condition of a group (R112). -/
def supplyCondition (p : Plan) (s : State) (g : Fin 2) : Bool :=
  allInputs.any fun k => p.inputs[k].role == .supplyLow && p.inputs[k].group == g.val && s.inp.pins[k].active

/-! ## What a change of an active flag does -/

/-- Replace the window state of a zone. -/
def setWindow (z : Fin 12) (o : Bool) (s : State) : State :=
  s.setInp { s.inp with windowOpen := updAt s.inp.windowOpen z fun _ => o }

/-- The window-event count of a zone rises (R109). -/
def countWindow (z : Fin 12) (s : State) : State :=
  s.setInp { s.inp with windowEvents := updAt s.inp.windowEvents z (satInc 255) }

/-- The window state of one enabled zone is judged, with the event handed to the zone regulator (R109). -/
def judgeWindow (p : Plan) (s : State) (z : Fin 12) : State :=
  let o := windowCounted p s z
  if !p.zones[z].enabled || o == s.inp.windowOpen[z] then s
  else if o then windowOpenEvent p z (countWindow z (setWindow z true s))
  else windowClosedEvent p z (setWindow z false s)

/-- The boiler fault condition is judged; a change is handed to the heat source (R111). -/
def judgeBoiler (p : Plan) (s : State) : State :=
  let c := boilerCondition p s
  if c == s.inp.boilerFault then s else boilerNotice p c (s.setInp { s.inp with boilerFault := c })

/-- The supply-low condition of a group is judged: a change is reported, then handed to the actuator driver (R112, R150). -/
def judgeSupply (p : Plan) (g : Fin 2) (s : State) : State :=
  let c := supplyCondition p s g
  if c == s.inp.supplyLow[g] then s else
    let t := s.setInp { s.inp with supplyLow := updAt s.inp.supplyLow g fun _ => c }
    if c then report .supplyLow g.val t else supplyRestored p g (reportEnd .supplyLow g.val t)

/-! ## Flow capture (R113 to R115) -/

/-- A change of the debounced level to `high` is a counted edge (R113). -/
def countsEdge (e : EdgeSelect) (high : Bool) : Bool :=
  match e with
  | .rising => high
  | .falling => !high
  | .both => true
  | .none | .other _ => false

/-- The capture of a counted edge of the flow pulse input: steps 1 to 3 of R113. -/
def captureEdge (p : Plan) (i : InputUnit) : InputUnit :=
  { i with
    period := i.capture, capture := 0, watch := min (2 * i.capture) (flowLimit p), pulses := satInc 255 i.pulses }

/-- The flow states at the end of a sample event, but for setting late and no flow, which FLOW_LATE and FLOW_NO_FLOW take
(R115). -/
def flowAfter (p : Plan) (i : InputUnit) : FlowStates :=
  let late := i.flow.late && decide (i.watch ≤ i.capture)
  { late := late
    noFlow := i.flow.noFlow && decide (flowLimit p ≤ i.capture)
    established := decide (2 ≤ i.pulses) && !late && (i.flow.established || decide (i.capture < i.watch)) }

/-- The flow states are judged while PUMP is on and a flow pulse input is named (R115). -/
def judgeFlow (p : Plan) (s : State) : State :=
  if pumpOn s.heat && (flowInput p).isSome then setFlow p (flowAfter p s.inp) s else s

/-! ## SAMPLE_EVENT -/

/-- One input's sample: the raw level, and the pending change recorded or dropped (R106); with no role the debounced level
follows (R107). -/
def samplePin (role : InputRole) (now : Nat) (high : Bool) (i : InputPin) : InputPin :=
  if role = .none then { i with raw := high, debounced := high, pending := none }
  else if high = i.debounced then { i with raw := high, pending := none }
  else { i with raw := high, pending := some (i.pending.getD now) }

/-- The capture counter's advance (R113): it stays 0 with no flow pulse input named (R115). -/
def advanceCapture (active : Option Plan) (c : Nat) : Nat :=
  match active with
  | none => c
  | some p => if (flowInput p).isSome then satInc 65535 c else c

/-- A sample event (R106): capture counter, samples, debounce, and the flow states. Sample events stop during a reset (R117). -/
def sampleEvent (levels : Byte) (s : State) : State :=
  if s.mem.inReset.isSome then s else
    let now := s.inp.time + 1
    let t := s.setInp { s.inp with
      time := now
      capture := advanceCapture s.plan.active s.inp.capture
      pins := tabulate fun k => samplePin (inputRole s.plan.active k) now (levels.getLsbD k.val) s.inp.pins[k] }
    match s.plan.active with
    | none => t
    | some p => judgeFlow p t

/-- SAMPLE_EVENT (R106). -/
def execSampleEvent (levels : Byte) (s : State) : Host.Outcome State Fault Refusal := .next (finish (sampleEvent levels s))

/-! ## DEBOUNCED_LEVEL_CHANGE -/

/-- A pending change of an input has been held for its debounce time (R106). -/
def changeDue (p : Plan) (s : State) (k : Fin 8) : Bool :=
  match s.inp.pins[k].pending with
  | some t => decide (t + debounceTime p.inputs[k].debounce ≤ s.inp.time)
  | none => false

/-- The debounced level takes the raw level and the active flag is judged (R106, R107); an activation, or a counted edge of a
FLOW_PULSE input, raises the edge count (R108). -/
def takeLevel (r : InputRec) (i : InputPin) : InputPin :=
  let flag := activeFlag r i.raw
  let counted := match r.role with
    | .window | .boilerFault | .supplyLow => !i.active && flag
    | .flowPulse => countsEdge r.edge i.raw
    | .none | .other _ => false
  { i with
    debounced := i.raw, pending := none, active := flag, edges := if counted then i.edges + 1 else i.edges }

/-- The input's role is applied after a change of its debounced level. The zones that name a WINDOW input are judged in ascending order of
their numbers (DESIGN CHOICE, assumption 38). -/
def applyRole (p : Plan) (k : Fin 8) (s : State) : State :=
  match p.inputs[k].role with
  | .window => (allZones.filter fun z => p.zones[z].windowMask.getLsbD k.val).foldl (judgeWindow p) s
  | .boilerFault => judgeBoiler p s
  | .supplyLow => judgeSupply p 1 (judgeSupply p 0 s)
  | .flowPulse =>
    if flowInput p = some k ∧ countsEdge p.inputs[k].edge s.inp.pins[k].debounced = true then
      judgeFlow p (s.setInp (captureEdge p s.inp))
    else s
  | .none | .other _ => s

/-- A pending change is taken as the debounced level (R106). -/
def debouncedChange (k : Fin 8) (s : State) : State :=
  match s.plan.active with
  | none => s
  | some p =>
    if changeDue p s k then
      applyRole p k (s.setInp { s.inp with pins := updAt s.inp.pins k (takeLevel p.inputs[k]) })
    else s

/-- DEBOUNCED_LEVEL_CHANGE (R106). -/
def execDebouncedLevelChange (input : Fin 8) (s : State) : Host.Outcome State Fault Refusal :=
  .next (finish (debouncedChange input s))

/-! ## FLOW_LATE and FLOW_NO_FLOW -/

/-- The capture counter reaches the watch limit while PUMP is on: late is set and established clears (R115). -/
def flowLate (s : State) : State :=
  match s.plan.active with
  | none => s
  | some p =>
    if pumpOn s.heat ∧ (flowInput p).isSome ∧ s.inp.watch ≤ s.inp.capture then
      setFlow p { s.inp.flow with late := true, established := false } s
    else s

/-- FLOW_LATE (R115). -/
def execFlowLate (s : State) : Host.Outcome State Fault Refusal := .next (finish (flowLate s))

/-- The capture counter reaches flow_timeout while PUMP is on: no flow is set, always with late (R115). -/
def flowNoFlow (s : State) : State :=
  match s.plan.active with
  | none => s
  | some p =>
    if pumpOn s.heat ∧ (flowInput p).isSome ∧ flowLimit p ≤ s.inp.capture then
      setFlow p ⟨true, true, false⟩ s
    else s

/-- FLOW_NO_FLOW (R115). -/
def execFlowNoFlow (s : State) : Host.Outcome State Fault Refusal := .next (finish (flowNoFlow s))

end Sys2Proof.Machine
end

