-- ==== Sys2Proof/Machine/SensorLink.lean ====
section
/-!
DEFINITION. The sensor link controller (05_the_sensor_link.md): frames, poll order, the judging of replies, sensor states and held
values, the LIMITS mark, bands, and its commands.
-/

namespace Sys2Proof.Machine

/-! ## Frames (R84, R85) -/

/-- The sum of data bytes modulo 256. -/
def sumBytes (l : List Byte) : Byte := l.foldl (· + ·) 0

/-- A frame's data bytes with its check character, which makes the sum 0 modulo 256 (R84). -/
def withCheck (l : List Byte) : List Byte := l ++ [0 - sumBytes l]

/-- The code of a command (R84). -/
def commandCode : LinkCommand → Byte
  | .sample => 0x21
  | .report => 0x22
  | .limits => 0x23

/-- The parameters of a command: the band limits in sixteenths for LIMITS (R84). -/
def commandParams (h : Header) : LinkCommand → List Byte
  | .sample | .report => []
  | .limits => bytes16 (h.bandLow * 16) ++ bytes16 (h.bandMid * 16)

/-- The characters of a request with the given data bytes: mark bit 1 on the address, and 0 on the others (R84). -/
def markAddress : List Byte → List SentChar
  | [] => []
  | a :: rest => ⟨a, true⟩ :: rest.map fun b => ⟨b, false⟩

/-- A request frame (R84). -/
def requestFrame (p : Plan) (e : Fin 16) (c : LinkCommand) : List SentChar :=
  markAddress (withCheck ([byteOf p.sensors[e].address, commandCode c] ++ commandParams p.header c))

/-- A received character differs from the one sent in its place by data byte, mark bit or framing, or was received where the
controller sent none (R87). -/
def echoDiffers (frame : List SentChar) (place : Option Nat) (received : LinkChar) : Bool :=
  match place with
  | none => true
  | some k =>
    match frame[k]? with
    | some c => received.data != c.data || received.mark != c.mark || !received.framed
    | none => true

/-- The most sample events that fall into the sending of `n` characters of 11/9,600 s each (R83). -/
def sendingTime (n : Nat) : Nat := n * 110 / 96 + 1

/-- The number of characters of a reply (R85). -/
def replyLength : LinkCommand → Nat
  | .sample => 5
  | .report => 8
  | .limits => 3

/-- A reply is valid for the request in progress (R89). -/
def replyValid (t : LinkTransaction) (chars : List LinkChar) : Bool :=
  chars.all (fun c => c.framed && !c.mark)
    && chars.head?.map (·.data) == t.frame.head?.map (·.data)
    && chars.length == replyLength t.command
    && sumBytes (chars.map (·.data)) == 0

/-- Character `k` of a reply as a number. -/
def replyByte (chars : List LinkChar) (k : Nat) : Nat :=
  match chars[k]? with
  | some c => c.data.toNat
  | none => 0

/-- The status of a reply (R85). -/
def replyStatus (chars : List LinkChar) : Nat := replyByte chars 1

/-- The temperature of a SAMPLE or REPORT reply (R85). -/
def replyTemp (chars : List LinkChar) : Int := signed16 (le16 (replyByte chars 2) (replyByte chars 3))

/-- The unit type that matches a role (R91). -/
def typeMatches (r : SensorRole) (unitType : Nat) : Bool :=
  match r with
  | .room => unitType == 1
  | .outdoor => unitType == 2
  | .pipe => unitType == 3
  | .cylinder => unitType == 4
  | .other _ => false

/-- The temperature lies within −640 to 1,600 (R90). -/
def tempInRange (t : Int) : Bool := decide (-640 ≤ t) && decide (t ≤ 1600)

/-- A valid reply is a success (R90). -/
def replySucceeds (r : SensorRole) (c : LinkCommand) (chars : List LinkChar) : Bool :=
  replyStatus chars == 0 &&
    match c with
    | .limits => true
    | .sample => tempInRange (replyTemp chars)
    | .report => typeMatches r (replyByte chars 6) && !(byteOf (replyByte chars 5)).getLsbD 0 && tempInRange (replyTemp chars)

/-! ## Starting a transaction (R86, R97 to R100) -/

/-- The poll timer has expired (R86). -/
def pollExpired (s : State) : Bool :=
  match s.link.pollExpiry with
  | none => true
  | some t => decide (t ≤ s.inp.time)

/-- 500 ms have passed since the pipe last attempt; with no last attempt the pipe unit is due at once (R97). -/
def pipeDue (s : State) : Bool :=
  match s.link.pipeLast with
  | none => true
  | some t => decide (t + 500 ≤ s.inp.time)

/-- Whether the next SAMPLE or REPORT transaction to an entry is a REPORT (R98). -/
def pollCommand (e : SensorEntry) : LinkCommand :=
  if e.state == .searching || e.typeFault || e.reportCounter == 7 then .report else .sample

/-- An entry is a rotation entry: not OFF, and not the pipe unit (R99). -/
def isRotation (p : Plan) (s : State) (e : Fin 16) : Bool := s.link.entries[e].state != .off && pipeUnit p != some e

/-- The entries in table order from the rotation position onward, wrapping (R99). -/
def rotationOrder (r : Fin 16) : List (Fin 16) := allEntries.map fun k => k + r

/-- The next rotation entry (R99). -/
def nextRotation (p : Plan) (s : State) : Option (Fin 16) := (rotationOrder s.link.rotation).find? (isRotation p s)

/-- A transaction starts: the link becomes BUSY, the poll timer restarts, and the first attempt begins (R86, R97, R98). -/
def startTransaction (p : Plan) (e : Fin 16) (c : LinkCommand) (s : State) : State :=
  let t := if c == .limits then s else
    s.updEntry e fun x => { x with reportCounter := (x.reportCounter + 1) % 8 }
  t.setLink { t.link with
    state := .busy
    pollExpiry := some (s.inp.time + 100)
    pipeLast := if pipeUnit p = some e then some s.inp.time else s.link.pipeLast
    txn := some {
      entry := e, command := c, frame := requestFrame p e c, second := false, dropped := false, markedSince := false,
      started := s.inp.time } }

/-- A SAMPLE or REPORT transaction to an entry (R98). -/
def poll (p : Plan) (e : Fin 16) (s : State) : State := startTransaction p e (pollCommand s.link.entries[e]) s

/-- Step 3 of R97: the next rotation entry, if there is one. -/
def pollRotation (p : Plan) (s : State) : State :=
  match nextRotation p s with
  | some e => poll p e (s.setLink { s.link with rotation := e + 1 })
  | none => s

/-- The link chooses when it is IDLE with the timer expired (R86, R97). -/
def choose (p : Plan) (s : State) : State :=
  if s.link.state == .idle && pollExpired s then
    match pipeUnit p with
    | some e => if pipeDue s then (if s.link.limitsMark then startTransaction p e .limits s else poll p e s) else pollRotation p s
    | none => pollRotation p s
  else s

/-! ## Outcomes (R90 to R96, R101, R102) -/

/-- The LIMITS mark is set; a transaction in progress then counts as started before (R100, R101). -/
def setMark (s : State) : State :=
  s.setLink { s.link with
    limitsMark := true
    txn := s.link.txn.map fun t => { t with markedSince := true } }

/-- The states on a miss (R92). -/
def stateAfterMiss (e : SensorEntry) : SensorState :=
  match e.state with
  | .off => .off
  | .searching => if 6 ≤ e.misses + 1 then .lost else .searching
  | .online => .stale
  | .stale => if 6 ≤ e.misses + 1 then .lost else .stale
  | .lost => .lost

/-- An entry after a miss (R92, R95). -/
def entryMiss (e : SensorEntry) : SensorEntry :=
  { e with
    state := stateAfterMiss e
    misses := if e.state == .online then 1 else satInc 255 e.misses
    failures := satInc 65535 e.failures }

/-- The held value of a reading: with the offset correction, clamped (R93). -/
def heldValue (r : SensorRec) (temp : Int) : Int := clampInt (temp + r.offset) (-640) 1600

/-- The band of a held value (R102). -/
def bandOf (h : Header) (v : Int) : Nat :=
  if v < (h.bandLow : Int) * 16 then 0 else if v < (h.bandMid : Int) * 16 then 1 else 2

/-- The band handed with a pipe reading: for a REPORT the larger of the band of the reading and the peak band, taken as at
most 2 (R90, R102). -/
def bandHanded (h : Header) (c : LinkCommand) (chars : List LinkChar) (v : Int) : Nat :=
  match c with
  | .report => max (bandOf h v) (min (replyByte chars 4) 2)
  | .sample | .limits => bandOf h v

/-- An entry after a valid reading (R92, R93, R95). -/
def entryReading (v : Int) (now : Nat) (e : SensorEntry) : SensorEntry :=
  { e with state := .online, misses := 0, held := some v, readTime := some now, successes := satInc 65535 e.successes }

/-- The entry is SEARCHING or LOST (R118). -/
def badState (x : SensorState) : Bool := x == .searching || x == .lost

/-- The entry's change is handed to the blocks that use it (R96): the zones that name it when it entered or left SEARCHING or
LOST, and the heat source for the pipe and outdoor units. -/
def handOver (p : Plan) (e : Fin 16) (old : SensorState) (reading : Option (Int × Nat)) (s : State) : State :=
  let new := s.link.entries[e].state
  let zones := if badState old == badState new then [] else
    allZones.filter fun z => p.zones[z].enabled && p.zones[z].sensor == e.val
  let t := zones.foldl (fun u z => sensorNotice p z u) s
  let u := if pipeUnit p = some e then
      let w := match reading with
        | some (v, band) => pipeReading p v band t
        | none => t
      if new != old then pipeStateChange p w else w
    else t
  if outdoorUnit p = some e && (reading.isSome || new != old) then outdoorNotice p (old != .lost && new == .lost) u else u

/-- A miss of the entry addressed: its state and counts, SENSOR_LOST at an entry into LOST, and the LIMITS mark of a pipe unit
that enters LOST (R92, R94, R100). -/
def applyMiss (p : Plan) (e : Fin 16) (s : State) : State :=
  let old := s.link.entries[e].state
  let t := s.updEntry e entryMiss
  let entered := old != .lost && t.link.entries[e].state == .lost
  let u := if entered then report .sensorLost e.val t else t
  let w := if entered && pipeUnit p == some e then setMark u else u
  handOver p e old none w

/-- A valid reading of the entry addressed (R93, R94, R102). -/
def applyReading (p : Plan) (e : Fin 16) (c : LinkCommand) (chars : List LinkChar) (s : State) : State :=
  let old := s.link.entries[e].state
  let v := heldValue p.sensors[e] (replyTemp chars)
  let band := bandHanded p.header c chars v
  let t := s.updEntry e (entryReading v s.clk.runSeconds)
  let u := if pipeUnit p = some e then t.updEntry e fun x => { x with lastBand := band } else t
  handOver p e old (some (v, band)) (reportEnd .sensorLost e.val u)

/-- What a valid REPORT gives besides its reading: the unit flags (R95) and the judgement of the unit type (R91). -/
def applyReport (p : Plan) (e : Fin 16) (chars : List LinkChar) (s : State) : State :=
  let flags := byteOf (replyByte chars 5)
  let matched := typeMatches p.sensors[e].role (replyByte chars 6)
  let t := s.updEntry e fun x => { x with
    faultFlag := flags.getLsbD 0, supplyFlag := flags.getLsbD 1, typeFault := !matched }
  if matched then reportEnd .sensorType e.val t else report .sensorType e.val t

/-- A success of LIMITS: it counts, and clears the mark unless the mark was set after its start (R95, R100, R101). -/
def applyLimits (e : Fin 16) (marked : Bool) (s : State) : State :=
  let t := s.updEntry e fun x => { x with successes := satInc 65535 x.successes }
  if marked then t else t.setLink { t.link with limitsMark := false }

/-- A reading of the pipe unit whose transaction was started before the mark was set is not applied while the mark is set and the
entry is SEARCHING or LOST (R101). -/
def readingVoid (p : Plan) (s : State) (t : LinkTransaction) : Bool :=
  pipeUnit p == some t.entry && t.markedSince && s.link.limitsMark && badState s.link.entries[t.entry].state

/-- The outcome of a valid reply for the entry addressed (R90). -/
def applyReply (p : Plan) (t : LinkTransaction) (chars : List LinkChar) (s : State) : State :=
  let e := t.entry
  let u := if t.command == .report then applyReport p e chars s else s
  if replySucceeds p.sensors[e].role t.command chars then
    if t.command == .limits then applyLimits e t.markedSince u
    else if readingVoid p s t then u
    else applyReading p e t.command chars u
  else applyMiss p e u

/-- The transaction leaves the link, which becomes IDLE. -/
def releaseLink (s : State) : State := s.setLink { s.link with state := .idle, txn := none }

/-- A transaction ends other than in contention (R86, R88, R89): the count of consecutive contentions is 0, the outcome `f` is applied
unless an adoption dropped it (R40), and the link chooses. -/
def endTransaction (p : Plan) (t : LinkTransaction) (f : State → State) (s : State) : State :=
  let u := if t.dropped then s else f s
  choose p (releaseLink (u.setLink { u.link with contentions := 0 }))

/-- An invalid reply, or none: the first attempt is followed by a second, and the second ends in a miss (R89). -/
def invalidReply (p : Plan) (t : LinkTransaction) (s : State) : State :=
  if t.second then endTransaction p t (applyMiss p t.entry) s
  else s.setLink { s.link with txn := some { t with second := true, started := s.inp.time } }

/-- A transaction ends in contention (R87, R88): a miss; the third in a row reports LINK_CONTENTION and pauses the link. The fault list
takes the link's reports and those of the zones' notices as one event (DESIGN CHOICE, assumption 45). -/
def contend (p : Plan) (t : LinkTransaction) (s : State) : State :=
  let u := if t.dropped then s else applyMiss p t.entry s
  if u.link.contentions + 1 < 3 then
    choose p (releaseLink (u.setLink { u.link with contentions := u.link.contentions + 1 }))
  else
    report .linkContention noSubject (u.setLink { u.link with
      contentions := 0, state := .paused, txn := none, pauseEnds := u.inp.time + 1000 })

/-! ## The commands -/

/-- The poll timer expires, and an IDLE link chooses (R86). -/
def pollTimer (s : State) : State :=
  match s.link.pollExpiry, s.plan.active with
  | some t, some p => if t ≤ s.inp.time then choose p (s.setLink { s.link with pollExpiry := none }) else s
  | _, _ => s

/-- POLL_TIMER_EXPIRY (R86). -/
def execPollTimerExpiry (s : State) : Host.Outcome State Fault Refusal := .next (finish (pollTimer s))

/-- The pipe unit becomes due, which is a choice event (R97). -/
def pipeUnitDue (s : State) : State :=
  match s.plan.active with
  | some p => if (pipeUnit p).isSome && pipeDue s then choose p s else s
  | none => s

/-- PIPE_UNIT_DUE (R97). -/
def execPipeUnitDue (s : State) : Host.Outcome State Fault Refusal := .next (finish (pipeUnitDue s))

/-- An event of the transaction in progress. -/
def inTransaction (f : Plan → LinkTransaction → State → State) (s : State) : State :=
  match s.plan.active, s.link.txn with
  | some p, some t => f p t s
  | _, _ => s

/-- The attempt under way may be in SENDING (R83, R86). -/
def sendingNow (t : LinkTransaction) (s : State) : Bool := decide (s.inp.time ≤ t.started + sendingTime t.frame.length)

/-- A character received during SENDING is compared with the one sent in its place; one that matches changes nothing (R87). -/
def compareEcho (place : Option Nat) (received : LinkChar) (p : Plan) (t : LinkTransaction) (s : State) : State :=
  if sendingNow t s && echoDiffers t.frame place received then contend p t s else s

/-- ECHO_MISMATCH (R87). -/
def execEchoMismatch (s : State) (place : Option Nat := none) (received : LinkChar := ⟨0, false, true⟩) :
    Host.Outcome State Fault Refusal :=
  .next (finish (inTransaction (compareEcho place received) s))

/-- The contention pause ends, and the link becomes IDLE and chooses (R88). -/
def pauseEnd (s : State) : State :=
  match s.plan.active with
  | some p =>
    if s.link.state = .paused ∧ s.link.pauseEnds ≤ s.inp.time then choose p (s.setLink { s.link with state := .idle }) else s
  | none => s

/-- CONTENTION_PAUSE_END (R88). -/
def execContentionPauseEnd (s : State) : Host.Outcome State Fault Refusal := .next (finish (pauseEnd s))

/-- NO_REPLY (R89). -/
def execNoReply (s : State) : Host.Outcome State Fault Refusal := .next (finish (inTransaction invalidReply s))

/-- A reply has ended and is judged (R89); a valid one ends LINK_CONTENTION (R88). -/
def replyEnd (chars : List LinkChar) (p : Plan) (t : LinkTransaction) (s : State) : State :=
  if replyValid t chars then
    endTransaction p t (applyReply p t chars) (reportEnd .linkContention noSubject s)
  else invalidReply p t s

/-- REPLY_END (R89). -/
def execReplyEnd (chars : List LinkChar) (s : State) : Host.Outcome State Fault Refusal :=
  .next (finish (inTransaction (replyEnd chars) s))

/-- A character received while the link is INACTIVE, IDLE or PAUSED is noise (R103). -/
def noise (s : State) : State :=
  if s.link.state = .busy then s else s.setLink { s.link with noise := satInc 65535 s.link.noise }

/-- NOISE_CHARACTER (R103). -/
def execNoiseCharacter (s : State) : Host.Outcome State Fault Refusal := .next (finish (noise s))

end Sys2Proof.Machine
end

