-- ==== Sys2Proof/Machine/Adoption.lean ====
section
/-!
DEFINITION. The completion of a plan check: restart, refusal or adoption, with the reconciliation of every block at an adoption
(R30, R33 to R43), and PLAN_CHECK_COMPLETION.
-/

namespace Sys2Proof.Machine

/-! ## Comparing the replaced plan with the new one -/

/-- The classes of R35. -/
inductive ZoneClass where
  | unchanged | disabled | started | kept
deriving DecidableEq, Repr

/-- The zone's record in the replaced plan, where it was enabled there; with no replaced plan every zone counts as disabled. -/
def oldZone (old : Option Plan) (z : Fin 12) : Option ZoneRec :=
  match old with
  | none => none
  | some p => if p.zones[z].enabled then some p.zones[z] else none

/-- The class of a zone (R35). -/
def zoneClass (old : Option Plan) (p : Plan) (z : Fin 12) : ZoneClass :=
  let n := p.zones[z]
  match oldZone old z, n.enabled with
  | none, false => .unchanged
  | some _, false => .disabled
  | none, true => .started
  | some o, true => if o.kind = n.kind ∧ o.sensor = n.sensor ∧ o.mask = n.mask then .kept else .started

/-- What an adoption makes of a sensor entry (R40). -/
inductive EntryClass where
  | off | searching | retained
deriving DecidableEq, Repr

/-- The class of a sensor entry (R40). -/
def entryClass (old : Option Plan) (p : Plan) (e : Fin 16) : EntryClass :=
  let n := p.sensors[e]
  if n.enabled then
    match old with
    | none => .searching
    | some q =>
      let o := q.sensors[e]
      if o.enabled && o.address == n.address && o.role == n.role then .retained else .searching
  else .off

/-- A header field differs from that of the replaced plan; it does where there is none. -/
def headerChanged {α : Type} [DecidableEq α] (f : Header → α) (old : Option Plan) (p : Plan) : Bool :=
  match old with
  | none => true
  | some q => decide (f q.header ≠ f p.header)

/-! ## The sensor link controller (R40, R100, R104) -/

/-- An entry that becomes SEARCHING or OFF (R40). -/
def clearEntry (state : SensorState) (x : SensorEntry) : SensorEntry :=
  { x with
    state := state, misses := 0, held := none, readTime := none, typeFault := false, reportCounter := 0, successes := 0,
    failures := 0 }

/-- An entry after the adoption (R40). -/
def reconcileEntry (c : EntryClass) (x : SensorEntry) : SensorEntry :=
  match c with
  | .off => clearEntry .off x
  | .searching => clearEntry .searching x
  | .retained => x

/-- SENSOR_LOST and SENSOR_TYPE leave for an entry that is not retained (R40). -/
def endEntryFaults (old : Option Plan) (p : Plan) (s : State) (e : Fin 16) : State :=
  if entryClass old p e = .retained then s else reportEnd .sensorType e.val (reportEnd .sensorLost e.val s)

/-- A transaction in flight whose entry is not retained is dropped (R40). -/
def reconcileTransaction (old : Option Plan) (p : Plan) (t : LinkTransaction) : LinkTransaction :=
  { t with dropped := t.dropped || entryClass old p t.entry != .retained }

/-- The adoption sets the LIMITS mark (R40, R100). -/
def marksLimits (old : Option Plan) (p : Plan) (e : Fin 16) : Bool :=
  headerChanged (·.pipeIndex) old p || entryClass old p e == .searching || headerChanged (·.bandLow) old p ||
    headerChanged (·.bandMid) old p

/-- The LIMITS mark at an adoption: set, kept, or cleared where the plan names no pipe unit (R100). -/
def reconcileMark (old : Option Plan) (p : Plan) (s : State) : State :=
  match pipeUnit p with
  | some e => if marksLimits old p e then setMark s else s
  | none => s.setLink { s.link with limitsMark := false }

/-- The sensor link controller at an adoption. -/
def reconcileLink (old : Option Plan) (p : Plan) (s : State) : State :=
  let l := s.link
  let t := s.setLink { l with
    state := if l.state = .inactive then .idle else l.state
    pipeLast := if headerChanged (·.pipeIndex) old p then none else l.pipeLast
    txn := l.txn.map (reconcileTransaction old p)
    entries := tabulate fun e => reconcileEntry (entryClass old p e) l.entries[e] }
  reconcileMark old p (allEntries.foldl (endEntryFaults old p) t)

/-! ## The input unit (R41, R107, R112, R116) -/

/-- The entry of an input changed so that its debounce starts again (R107, R116). A change in the supply group alone, or in the edge select
of an input that the header does not name, keeps the pending change (DESIGN CHOICE, assumption 43). -/
def debounceRestarts (old : Option Plan) (p : Plan) (k : Fin 8) : Bool :=
  match old with
  | none => true
  | some q =>
    let o := q.inputs[k]
    let n := p.inputs[k]
    o.role != n.role || o.active != n.active || o.debounce != n.debounce || (flowInput p == some k && o.edge != n.edge)

/-- An input at an adoption: its pending change is dropped where its debounce starts again, and its active flag is judged (R107). -/
def reconcilePin (old : Option Plan) (p : Plan) (k : Fin 8) (i : InputPin) : InputPin :=
  { i with
    pending := if debounceRestarts old p k then none else i.pending
    active := activeFlag p.inputs[k] i.debounced }

/-- The watch limit under a changed flow_timeout (R116). "At least one edge has been counted since the pump started" is a pulse count of at
least 1, also where the pump has not started since the reset or the first adoption (DESIGN CHOICE, assumption 39). -/
def reloadWatch (p : Plan) (i : InputUnit) : Nat :=
  if i.period ≠ 0 ∧ 1 ≤ i.pulses then min (2 * i.period) (flowLimit p) else flowLimit p

/-- The flow capture at an adoption (R41, R116). -/
def reconcileFlow (old : Option Plan) (p : Plan) (i : InputUnit) : InputUnit :=
  if headerChanged (·.flowIndex) old p then
    { i with capture := 0, period := 0, pulses := 0, watch := flowLimit p, flow := ⟨false, false, false⟩ }
  else if headerChanged (·.flowTimeout) old p then { i with watch := reloadWatch p i }
  else i

/-- The supply-low condition of a group at an adoption (R41, R112); its arbiter tries its head at the end of the adoption. -/
def reconcileSupply (p : Plan) (s : State) (g : Fin 2) : State :=
  let c := supplyCondition p s g
  if c == s.inp.supplyLow[g] then s else
    let t := s.setInp { s.inp with supplyLow := updAt s.inp.supplyLow g fun _ => c }
    if c then report .supplyLow g.val t else reportEnd .supplyLow g.val t

/-- The input unit at an adoption: inputs, window states, supply-low conditions, boiler fault condition and flow capture. The
window events of Kept zones are counted with the zones. -/
def reconcileInputs (old : Option Plan) (p : Plan) (s : State) : State :=
  let t := s.setInp (reconcileFlow old p { s.inp with pins := tabulate fun k => reconcilePin old p k s.inp.pins[k] })
  let u := t.setInp { t.inp with
    windowOpen := tabulate fun z => p.zones[z].enabled && windowCounted p t z
    boilerFault := boilerCondition p t }
  allGroups.foldl (reconcileSupply p) u

/-! ## Zones (R35 to R38, R41) -/

/-- A zone of class Disabled (R36), with its record in the replaced plan. -/
def disableZone (r : ZoneRec) (z : Fin 12) (s : State) : State :=
  (setMode z .disabled (deenergiseRaw r .idle z s)).updReg z fun _ => ZoneReg.afterReset

/-- A zone of class Started (R37). One that was in FALLBACK and starts in FALLBACK hands no report: its ZONE_FALLBACK stays as it is
(DESIGN CHOICE, assumption 40). -/
def startZone (p : Plan) (z : Fin 12) (s : State) : State :=
  let m := modeFor s.inp.windowOpen[z] (sensorBad s p.zones[z].sensor)
  ((setMode z m s).updReg z fun _ => { ZoneReg.afterReset with mode := m }).updDrv z fun _ => ZoneDrive.afterReset

/-- A Kept zone's window state went from CLOSED to OPEN: the OPEN event in full (R41, R120). -/
def keptOpens (p : Plan) (z : Fin 12) (s : State) : State :=
  deenergiseRaw p.zones[z] .idle z (openRegulator z (countWindow z s))

/-- A Kept zone's window state went from OPEN to CLOSED: the CLOSED event (R41, R121). -/
def keptCloses (p : Plan) (z : Fin 12) (s : State) : State :=
  let m := modeFor false (sensorBad s p.zones[z].sensor)
  setMode z m (s.updReg z fun g => { g with
    demand := 0, onTime := 0, latch := if m == .fallback then false else g.latch })

/-- A zone of class Kept (R38, R41); `wasOpen` is its window state under the replaced plan. A cylinder zone's call is formed
again (R135). Where a RUNNING zone's window opens at the adoption that makes its entry SEARCHING, R122 lets either come first: the OPEN
event does here, so the zone enters WINDOW without FALLBACK, keeps a cylinder latch, and reports nothing (DESIGN CHOICE,
assumption 50). -/
def keepZone (p : Plan) (wasOpen : Bool) (z : Fin 12) (s : State) : State :=
  let t :=
    if wasOpen = s.inp.windowOpen[z] then sensorMode p z s
    else if wasOpen then keptCloses p z s
    else keptOpens p z s
  if isCylinder p z then setCall z (cylinderCallNow t z) t else t

/-- One zone at an adoption. The heat source judges the calls and valves in its own reconciliation. -/
def reconcileZone (old : Option Plan) (p : Plan) (before : Vector Bool 12) (s : State) (z : Fin 12) : State :=
  match zoneClass old p z, oldZone old z with
  | .disabled, some r => disableZone r z s
  | .started, _ => startZone p z s
  | .kept, _ => keepZone p before[z] z s
  | _, _ => s

/-! ## The override list (R39) -/

/-- The override list under a new plan (R39). -/
def pruneOverrides (p : Plan) (o : OverrideList) : OverrideList :=
  { o with entries := (o.entries.map fun e => { e with mask := e.mask &&& enabledMask p }).filter fun e => e.mask != 0 }

/-! ## The supply groups (R42) -/

/-- Of two energised zones, whether `a` is de-energised before `b` by group limiting (R42). -/
def limitedFirst (p : Plan) (s : State) (a b : Fin 12) : Bool :=
  let pa := p.zones[a].priority
  let pb := p.zones[b].priority
  let ga := s.drv[a].lastGrant
  let gb := s.drv[b].lastGrant
  if pa ≠ pb then decide (pb < pa) else if ga ≠ gb then grantOlder gb ga else decide (b.val < a.val)

/-- The energised zones of a group. -/
def energisedZones (p : Plan) (s : State) (g : Fin 2) : List (Fin 12) :=
  allZones.filter fun z => isRoom p z && zoneGroup p z == g && s.drv[z].request == .energised

/-- The zone that group limiting picks (R42). -/
def limitPick (p : Plan) (s : State) (g : Fin 2) : Option (Fin 12) :=
  match energisedZones p s g with
  | [] => none
  | z :: rest => some (rest.foldl (fun a b => if limitedFirst p s b a then b else a) z)

/-- Group limiting, with fuel for the zones of the group (R42). -/
def limitGroup (p : Plan) (g : Fin 2) : Nat → State → State
  | 0, s => s
  | fuel + 1, s =>
    if p.groups[g].maxEnergised < energisedCount p s g then
      match limitPick p s g with
      | some z => limitGroup p g fuel (deenergiseRaw p.zones[z] .waiting z s)
      | none => s
    else s

/-- The wait list of a group: its waiting zones in the order of the new keys (R42, R143). -/
def orderedWaitList (p : Plan) (s : State) (g : Fin 2) : List (Fin 12) :=
  (allZones.filter fun z => isRoom p z && zoneGroup p z == g && s.drv[z].request == .waiting).foldr (insertWaiting p s) []

/-- The wait list and inrush log of a group under the new plan (R42). -/
def reconcileGroup (p : Plan) (s : State) (g : Fin 2) : State :=
  let t := limitGroup p g 12 s
  t.updGrp g fun q => { q with
    waitList := orderedWaitList p t g
    inrush := youngInrush q.inrush p.groups[g].inrushWindow t.clk.runSeconds }

/-- Both groups under the new plan (R42). -/
def reconcileGroups (p : Plan) (s : State) : State := allGroups.foldl (reconcileGroup p) s

/-- One try of each group's head, once the whole adoption's reconciliation has been taken (R144, R149). -/
def adoptionTries (p : Plan) (s : State) : State := allGroups.foldl (fun t g => arbiterTry p g t) s

/-! ## The heat source controller (R43, R111, R157, R159 to R161, R178) -/

/-- The in-service list at an adoption: the services that still call in the order of the new priorities, joined by the pending
services of higher priority than its head, or by the highest pending service where it is empty (R43, R159). -/
def adoptedServices (p : Plan) (s : State) : List Service :=
  let kept := orderServices p (s.heat.inService.filter (calling p s))
  let waiting := pendingServices p s kept
  match kept with
  | [] => waiting.take 1
  | h :: _ => waiting.filter (fun q => decide (servicePriority p q < servicePriority p h)) ++ kept

/-- The outdoor hold at an adoption (R178): an index change ends it, and a unit newly named that is LOST already starts none, so the
default outdoor temperature is in use at once, though R178's table gives a LOST unit its held value for 3,600 s from its entry into
LOST (DESIGN CHOICE, assumption 47). -/
def adoptedHold (old : Option Plan) (p : Plan) (s : State) : Option Nat :=
  match outdoorUnit p with
  | none => none
  | some e =>
    if headerChanged (·.outdoorIndex) old p || entryClass old p e != .retained then none else s.heat.outdoorHold

/-- The calls, the in-service list and DIV at an adoption. -/
def reconcileServices (old : Option Plan) (p : Plan) (s : State) : State :=
  let t := s.setHeat { s.heat with frostCall := frostNow p s, outdoorHold := adoptedHold old p s }
  followDiv p (setInService (adoptedServices p t) t)

/-- The heat source controller at an adoption; `boiler` says whether the input unit hands it the boiler fault condition. The services are
chosen, and DIV follows, before the boiler condition or a pipe unit that is not usable stops the burner (DESIGN CHOICE, assumption 31). -/
def reconcileHeat (old : Option Plan) (p : Plan) (boiler : Bool) (s : State) : State :=
  let t := reconcileServices old p s
  let u := if boiler then boilerNotice p t.inp.boilerFault t else t
  let v := if cylinderTimedOut p u then takeCylinderTimeout p u else u
  recompute p (judge p (stopWithoutPipe p v))

/-! ## Adoption and refusal (R33, R34) -/

/-- The reconciliation of every block with the plan just adopted (section 2.7 of 02_the_heating_plan.md). The arbiters try their heads
after it, so the heat source has judged the valves that group limiting closed before one of them is granted again (R149). -/
def reconcile (old : Option Plan) (p : Plan) (s : State) : State :=
  let inputs := reconcileInputs old p (reconcileLink old p s)
  let zones := allZones.foldl (reconcileZone old p s.inp.windowOpen) inputs
  let targets := evaluateSchedule (zones.setOvr (pruneOverrides p zones.ovr))
  let boiler := old.isNone || s.inp.boilerFault != inputs.inp.boilerFault
  choose p (adoptionTries p (reconcileHeat old p boiler (reconcileGroups p targets)))

/-- The plan store at an adoption of the plan `p`, whose stored form is `q` (R34). -/
def adoptedStore (p q : Plan) (c : PlanStore) : PlanStore :=
  { c with
    active := some p, check := .idle, lastResult := .adopted, lastOffset := 0xFFFF, clampCount := clampCountOf q,
    firstClamp := firstClampOf q }

/-- An adoption (R34). -/
def adopt (p q : Plan) (s : State) : State :=
  let t := s.setPlan (adoptedStore p q s.plan)
  reconcile s.plan.active p (raiseAttention (reportEnd .noPlan noSubject (reportEnd .planRefused noSubject t)))

/-- The plan store at a refusal (R33). -/
def refusedStore (v : Violation) (q : Plan) (c : PlanStore) : PlanStore :=
  { c with
    check := .idle, lastResult := .refused v.code, lastOffset := v.offset, clampCount := clampCountOf q,
    firstClamp := firstClampOf q }

/-- The conditions that a refusal reports (R33). -/
def reportRefusal (noPlan : Bool) (why : RefusalCode) (s : State) : State :=
  let t := if noPlan then report .noPlan noSubject s else s
  if noPlan && why == .magic then t else report .planRefused noSubject t

/-- A refusal (R33). -/
def refuse (v : Violation) (q : Plan) (s : State) : State :=
  raiseAttention (reportRefusal s.plan.active.isNone v.code (s.setPlan (refusedStore v q s.plan)))

/-- A RELOAD in flight completes with the check: DONE, with the refusal code or 0 as detail (R66, R74). -/
def completeReload (detail : Nat) (s : State) : State :=
  match s.req.inFlight with
  | some f => complete f.tag .done detail s
  | none => s

/-- A fresh completion of a check (R32 to R34). -/
def freshCompletion (s : State) : State :=
  let q := storedPlan s.plan.shadow
  let p := workingPlan q
  match reportedViolation p with
  | some v => completeReload (refusalNumber v.code) (refuse v q s)
  | none => completeReload 0 (adopt p q s)

/-- A stale check is discarded, and a new check starts at once (R30). -/
def restartCheck (c : PlanStore) : PlanStore :=
  { c with check := .running, pendingEdits := false, restarts := satInc 255 c.restarts }

/-- The completion of a plan check (R30). -/
def checkCompletion (s : State) : State :=
  match s.plan.check with
  | .idle => s
  | .stale => s.setPlan (restartCheck s.plan)
  | .running => freshCompletion s

/-- PLAN_CHECK_COMPLETION (R30). -/
def execPlanCheckCompletion (s : State) : Host.Outcome State Fault Refusal := .next (finish (checkCompletion s))

end Sys2Proof.Machine
end

