-- ==== Sys2Proof/Machine/Image.lean ====
section
/-!
DEFINITION. The live image: the 1,024 bytes of the live area as functions of the state (R15, R192), and the arithmetic of its
addresses (R2).
-/

namespace Sys2Proof.Machine

/-! ## Encodings (R192) -/

/-- A record of `n` bytes: every byte that no table names reads 0. -/
def imageRecord (n : Nat) (l : List Byte) : List Byte := (l ++ List.replicate n 0).take n

/-- A temperature, or 0x8000 for none. -/
def imageTemp (t : Option Int) : List Byte :=
  match t with
  | some v => bytesTemp v
  | none => bytes16 0x8000

/-- The age of a run second, stopping at 65,535, which is also the age of none. -/
def imageAge (s : State) (t : Option Nat) : List Byte :=
  match t with
  | some v => bytes16 (min (s.clk.runSeconds - v) 65535)
  | none => bytes16 65535

/-- A run second, or 0xFFFFFFFF for one that is never set. -/
def imageTime (t : Option Nat) : List Byte :=
  match t with
  | some v => bytes32 v
  | none => bytes32 0xFFFFFFFF

/-- A byte field. -/
def imageByte (n : Nat) : List Byte := [byteOf n]

/-- The number of a reset cause. -/
def resetNumber : ResetKind → Nat
  | .power => 1
  | .supply => 2
  | .pin => 3

/-- The number of a plan status. -/
def planStatusNumber : PlanStatus → Nat
  | .none => 0
  | .active => 1
  | .activeDoubt => 2

/-- The number of a check state. -/
def checkNumber : CheckState → Nat
  | .idle => 0
  | .running => 1
  | .stale => 2

/-- The number of a last check result. -/
def resultNumber : CheckResult → Nat
  | .none => 0
  | .adopted => 1
  | .refused _ => 2

/-- The refusal code shown: 0 unless REFUSED. -/
def refusalShown : CheckResult → Nat
  | .refused why => refusalNumber why
  | .none | .adopted => 0

/-- The number of a sequence state. -/
def seqNumber : SeqState → Nat
  | .idle => 0
  | .waiting => 1
  | .running => 2

/-- The active generation; 0 while the plan status is NONE (R45). -/
def activeGeneration (s : State) : Byte :=
  match s.plan.active with
  | some p => p.header.generation
  | none => 0

/-- The number of a heat-source state. -/
def heatNumber : HeatState → Nat
  | .off => 0
  | .held => 1
  | .prerun => 2
  | .firing => 3
  | .postrun => 4
  | .lockout => 5

/-- The code of a service. -/
def serviceNumber : Service → Nat
  | .frost => 1
  | .cylinder => 2
  | .heating => 3

/-- The number of a hold reason. -/
def holdNumber : HoldReason → Nat
  | .none => 0
  | .minOff => 1
  | .ignLimit => 2
  | .cap2 => 3
  | .noPath => 4
  | .noPipe => 5

/-- The number of a cap level. -/
def capNumber : CapLevel → Nat
  | .cap0 => 0
  | .cap1 => 1
  | .cap2 => 2

/-- The number of a zone mode. -/
def modeNumber : ZoneMode → Nat
  | .disabled => 0
  | .running => 1
  | .window => 2
  | .fallback => 3

/-- The number of a valve state. -/
def valveNumber : ValveState → Nat
  | .closed => 0
  | .opening => 1
  | .open => 2
  | .closing => 3

/-- The number of a request state. -/
def requestNumber : RequestState → Nat
  | .idle => 0
  | .waiting => 1
  | .energised => 2

/-- The number of a sensor state. -/
def sensorNumber : SensorState → Nat
  | .off => 0
  | .searching => 1
  | .online => 2
  | .stale => 3
  | .lost => 4

/-- The number of a result status (R65). -/
def statusNumber : Status → Nat
  | .none => 0
  | .done => 1
  | .badKind => 2
  | .badParam => 3
  | .full => 4
  | .notFound => 5
  | .tooHot => 6
  | .noPlan => 7

/-! ## The records (R192) -/

/-- The device record. -/
def deviceRecord (s : State) : List Byte := imageRecord 32 (
  imageByte 1 ++ imageByte (resetNumber s.mem.cause) ++ imageByte (planStatusNumber (planStatus s)) ++
  [activeGeneration s] ++ imageByte (checkNumber s.plan.check) ++ imageByte (resultNumber s.plan.lastResult) ++
  imageByte (refusalShown s.plan.lastResult) ++ [flagByte s.plan.pendingEdits] ++ bytes16 s.plan.lastOffset ++
  imageByte s.plan.clampCount ++ imageByte s.plan.restarts ++ bytes16 s.plan.firstClamp ++ imageByte s.clk.day ++
  imageByte s.clk.second ++ bytes16 s.clk.minute ++ [flagByte s.clk.valid] ++ imageByte (seqNumber s.mem.seq) ++
  bytes32 s.clk.runSeconds ++ bytes16 s.mem.heldCount ++ imageByte s.req.overrun ++ [s.faults.attention] ++
  [s.req.consumer] ++ imageByte s.faults.overflow ++ bytes16 s.link.noise)

/-- The calling set: bit 0 FROST, bit 1 CYLINDER, bit 2 HEATING; no service calls while no plan is adopted (R156). -/
def callingSet (s : State) : Nat :=
  match s.plan.active with
  | none => 0
  | some p =>
    (if calling p s .frost then 1 else 0) + (if calling p s .cylinder then 2 else 0) +
      (if calling p s .heating then 4 else 0)

/-- The flow states: bit 0 late, bit 1 established, bit 2 no flow. -/
def flowBits (s : State) : Nat :=
  (if s.inp.flow.late then 1 else 0) + (if flowEstablished s then 2 else 0) + (if s.inp.flow.noFlow then 4 else 0)

/-- The pipe held value; none while no plan names a pipe unit. -/
def shownPipe (s : State) : Option Int :=
  match s.plan.active with
  | some p => pipeHeld p s
  | none => none

/-- The outdoor value in use; none while no plan gives one (DEDUCED, assumption 17). -/
def shownOutdoor (s : State) : Option Int :=
  match s.plan.active with
  | some p => some (outdoorInUse p s)
  | none => none

/-- The remaining time of the cylinder block, 0 when it is not running. -/
def blockRemaining (s : State) : Nat :=
  match s.heat.cylBlock with
  | some t => t - s.clk.runSeconds
  | none => 0

/-- The heat-source record. -/
def heatRecord (s : State) : List Byte := imageRecord 32 (
  imageByte (heatNumber s.heat.state) ++ imageRecord 1 ((served s).toList.map fun v => byteOf (serviceNumber v)) ++
  imageRecord 3 (s.heat.inService.map fun v => byteOf (serviceNumber v)) ++ imageByte (callingSet s) ++
  imageByte (holdNumber s.heat.hold) ++ imageByte (causeNumber s.heat.cause) ++ imageByte s.heat.retryCount ++
  imageByte (capNumber s.heat.cap) ++ imageByte (capNumber (effectiveCap s)) ++ imageByte s.heat.duty ++
  bytesTemp s.heat.flowTarget ++ imageTemp (shownPipe s) ++ imageTemp (shownOutdoor s) ++ bytes16 s.inp.period ++
  imageByte (flowBits s) ++ imageByte s.heat.ignitions.length ++ imageAge s s.heat.ignitions.head? ++
  bytes16 s.heat.cylTimer ++ bytes16 (blockRemaining s))

/-- The target source of a zone and the level or id shown with it (R59). With source 0, none, there is neither a level nor an id, and the
byte shown with it reads 0 (DESIGN CHOICE, assumption 51). -/
def targetSource (s : State) (z : Fin 12) : Nat × Nat :=
  match winner s.ovr z, s.clk.level[z] with
  | some e, _ => (2, e.id)
  | none, some l => (1, levelNumber l)
  | none, none => (0, 0)

/-- A zone status. -/
def zoneRecord (s : State) (z : Fin 12) : List Byte :=
  let g := s.reg[z]
  let d := s.drv[z]
  imageRecord 32 (
    imageByte (modeNumber g.mode) ++ imageByte (targetSource s z).1 ++ imageByte (targetSource s z).2 ++
    [levelsPresent s.ovr z] ++ bytesTemp s.clk.target[z] ++ imageTemp g.measured ++ imageByte g.demand ++
    imageByte g.onTime ++ bytes16 g.integral ++ imageByte (valveNumber d.valve) ++
    imageByte (requestNumber d.request) ++ [flagByte g.starved] ++ imageByte s.inp.windowEvents[z] ++
    imageTime d.lastGrant)

/-- The energised output count of a group, and its max_energised in use; with no plan the latter is a free value
(assumption 6). -/
def groupLimits (s : State) (g : Fin 2) : List Byte :=
  match s.plan.active with
  | some p => imageByte (energisedCount p s g) ++ imageByte p.groups[g].maxEnergised
  | none => [0, Config.maxEnergisedWithoutPlan g.val]

/-- A supply-group status: a group's list holds at most 8 zones, at 0x07 to 0x0E, and byte 0x0F reads 0 (R192). -/
def groupRecord (s : State) (g : Fin 2) : List Byte :=
  let q := s.grp[g]
  imageRecord 16 (
    groupLimits s g ++ [flagByte s.inp.supplyLow[g]] ++ imageByte q.inrush.length ++ imageAge s q.inrush.head? ++
    imageByte q.waitList.length ++ (q.waitList.take 8).map fun z => byteOf z.val)

/-- The pulse count shown for an input: only for the input the header names. -/
def shownPulses (s : State) (k : Fin 8) : Nat :=
  match s.plan.active with
  | some p => if flowInput p = some k then s.inp.pulses else 0
  | none => 0

/-- An input status. -/
def inputRecord (s : State) (k : Fin 8) : List Byte :=
  let i := s.inp.pins[k]
  imageRecord 4 (
    imageByte ((if i.debounced then 1 else 0) + (if i.active then 2 else 0)) ++ imageByte (shownPulses s k) ++
    bytes16 i.edges.toNat)

/-- The last band shown for an entry: only for the entry named by the pipe sensor index (R95). An entry that the index leaves keeps its
last band, and shows it again if the index names it again (DESIGN CHOICE, assumption 37). -/
def shownBand (s : State) (e : Fin 16) : Nat :=
  match s.plan.active with
  | some p => if p.header.pipeIndex = e.val then s.link.entries[e].lastBand else 0
  | none => 0

/-- A sensor status. -/
def sensorRecord (s : State) (e : Fin 16) : List Byte :=
  let x := s.link.entries[e]
  imageRecord 16 (
    imageByte (sensorNumber x.state) ++ imageByte x.misses ++ imageTemp x.held ++ imageAge s x.readTime ++
    imageByte (shownBand s e) ++ imageByte ((if x.faultFlag then 1 else 0) + (if x.supplyFlag then 2 else 0)) ++
    bytes16 x.successes ++ bytes16 x.failures)

/-- The mode and value bytes of an override entry. -/
def overrideBytes : OverrideValue → List Byte
  | .level l => imageByte 1 ++ imageByte (levelNumber l)
  | .setpoint half => imageByte 2 ++ imageByte half

/-- An override entry place. -/
def overrideRecord (e : OverrideEntry) : List Byte := imageRecord 8 (
  imageByte e.id ++ imageByte e.priority ++ bytes16 e.mask.toNat ++ overrideBytes e.value ++ bytes16 e.remaining)

/-- A result table entry. -/
def resultRecord (r : ResultEntry) : List Byte := imageRecord 4 (
  [r.tag] ++ imageByte (statusNumber r.status) ++ imageByte r.detail ++ [r.seq])

/-- A fault place. -/
def faultRecord (e : FaultEntry) : List Byte := imageRecord 4 (
  imageByte (faultNumber e.code) ++ imageByte e.subject ++ imageByte e.count ++ imageByte (faultKind e.code))

/-- The live image: all 1,024 bytes of the live area (R14, R192). -/
def liveImage (s : State) : List Byte := imageRecord 1024 (
  deviceRecord s ++ heatRecord s ++ allZones.flatMap (zoneRecord s) ++ allGroups.flatMap (groupRecord s) ++
  allInputs.flatMap (inputRecord s) ++ allEntries.flatMap (sensorRecord s) ++
  imageRecord 128 (s.ovr.entries.flatMap overrideRecord) ++ s.req.results.toList.flatMap resultRecord ++
  imageRecord 64 (s.faults.entries.flatMap faultRecord))

/-! ## Addresses (R2) and substitution (R14) -/

/-- The address of the data byte at a position of an access that carries the 24-bit value `a` (R2). -/
def dataAddress (m : MemoryPath) (a i : Nat) : Nat := (a + i) % m.size

/-- The window offset of an address, where it lies in the window (R2). -/
def windowOffset (m : MemoryPath) (a : Nat) : Option Nat :=
  if m.base ≤ a ∧ a < m.base + 0x2000 then some (a - m.base) else none

/-- The image byte at an address, where it lies in the live area (R14). -/
def imageAt (m : MemoryPath) (image : List Byte) (a : Nat) : Option Byte :=
  match windowOffset m a with
  | some o => if 0x1000 ≤ o ∧ o < 0x1400 then some (image.getD (o - 0x1000) 0) else none
  | none => none

/-- The byte that a tracked READ drives on SDO_U for the memory's byte `b` at an address (R14). -/
def substitute (m : MemoryPath) (image : List Byte) (a : Nat) (b : Byte) : Byte := (imageAt m image a).getD b

/-- The first `n` bits of a byte on a line of the bus, the most significant first (PRESUMED, assumption 49). -/
def lineBits (b : Byte) (n : Nat) : List Bool := (List.range n).map fun i => b.getLsbD (7 - i)

/-- The bits of an incomplete data byte that a tracked READ drives on SDO_U for the memory's `bits` at an address (R14). -/
def substituteBits (m : MemoryPath) (image : List Byte) (a : Nat) (bits : List Bool) : List Bool :=
  match imageAt m image a with
  | some b => lineBits b bits.length
  | none => bits

/-- The bytes a tracked READ drives on SDO_U from position `i` on (R14). -/
def substituteAll (m : MemoryPath) (image : List Byte) (a i : Nat) : List Byte → List Byte
  | [] => []
  | b :: rest => substitute m image (dataAddress m a i) b :: substituteAll m image a (i + 1) rest

end Sys2Proof.Machine
end

