-- ==== Sys2Proof/Machine/HostBus.lean ====
section
/-!
DEFINITION. The memory path (01_the_memory_path.md): host transactions, mirrors, landing and triggers, live substitution, and the
load and reload sequences.
-/

namespace Sys2Proof.Machine

/-! ## Transactions (R3 to R5, R16) -/

/-- A tracked transaction at its start. -/
def freshTransaction : Tracked := { cls := none, clocks := 0, latchWasSet := false, addr := none, pos := 0 }

/-- Complete bytes of a forwarded transaction pass: SDI_M follows SDI_U and SDO_U follows SDO_M (R3). -/
def forwardBytes (l : List BusByte) (m : MemoryPath) : MemoryPath :=
  { m with
    wire := { m.wire with bytes := m.wire.bytes ++ l.map (·.sdi) },
    sdoU := { m.sdoU with bytes := m.sdoU.bytes ++ l.map (·.sdo) } }

/-- The bits of an incomplete byte pass, with `out` on SDO_U (R3). -/
def forwardBits (bits : List BusBit) (out : List Bool) (m : MemoryPath) : MemoryPath :=
  { m with
    wire := { m.wire with bits := m.wire.bits ++ bits.map (·.sdi) },
    sdoU := { m.sdoU with bits := m.sdoU.bits ++ out } }

/-- CS_U# falls (R3, R5, R16): the transaction is untracked during a reset, held while BUSY# is asserted, and else tracked. -/
def transactionBegin (s : State) : State :=
  let m := { s.mem with sdoU := LineRecord.empty }
  if s.mem.txn ≠ .idle then s
  else if s.mem.inReset.isSome then s.setMem { m with txn := .untracked, wire := LineRecord.empty }
  else if s.mem.busy then s.setMem { m with txn := .held, heldCount := satInc 65535 m.heldCount }
  else s.setMem { m with txn := .tracked freshTransaction, wire := LineRecord.empty }

/-- HOST_TRANSACTION_BEGIN (R16). -/
def execHostTransactionBegin (s : State) : Host.Outcome State Fault Refusal := .next (finish (transactionBegin s))

/-- The command byte `code` of a tracked transaction completes, with `more` complete bytes after it, and gives the class
(R3, R4, R189). -/
def classified (code : Byte) (more : Nat) (m : MemoryPath) (t : Tracked) : Tracked :=
  { t with cls := some (classify code), clocks := 8 + 8 * more, latchWasSet := decide (m.latch = .set) }

/-- SDO_U reads all ones for `n` complete bytes of a held transaction, whatever they are: command, address or data bytes (R16). -/
def onesReceived (n : Nat) (s : State) : State :=
  s.setMem { s.mem with sdoU := { s.mem.sdoU with bytes := s.mem.sdoU.bytes ++ List.replicate n 0xFF } }

/-- What the command byte `first` does, with the complete bytes `more` after it: `f` in a tracked transaction that has no class yet. In a
held transaction the host receives ones for all of them (R16); a tracked and an untracked one are forwarded (R3, R5). -/
def onCommand (first : BusByte) (more : List BusByte) (f : Tracked → State → State) (s : State) : State :=
  let m := forwardBytes (first :: more) s.mem
  match s.mem.txn with
  | .idle => s
  | .held => onesReceived (1 + more.length) s
  | .untracked => s.setMem m
  | .tracked t =>
    if t.cls = none then
      let u := classified first.sdi more.length s.mem t
      f u (s.setMem { m with txn := .tracked u })
    else s

/-- A command that is forwarded and has no further effect at its bytes: READ STATUS (R4), and those that act at the CS_U# rise only. -/
def noEffect (_ : Tracked) (s : State) : State := s

/-- WRITE_ENABLE (R7): it acts at the CS_U# rise. -/
def execWriteEnable (s : State) (more : List BusByte := []) (heard : Byte := 0) : Host.Outcome State Fault Refusal :=
  .next (finish (onCommand ⟨0x06, heard⟩ more noEffect s))

/-- WRITE_DISABLE (R7): it acts at the CS_U# rise. -/
def execWriteDisable (s : State) (more : List BusByte := []) (heard : Byte := 0) : Host.Outcome State Fault Refusal :=
  .next (finish (onCommand ⟨0x04, heard⟩ more noEffect s))

/-- READ_STATUS (R4): forwarded unaltered in both directions. -/
def execReadStatus (more : List BusByte) (s : State) (heard : Byte := 0) : Host.Outcome State Fault Refusal :=
  .next (finish (onCommand ⟨0x05, heard⟩ more noEffect s))

/-- The first data byte of a WRITE STATUS whose latch was SET sets the protection mirror (R8). -/
def writeStatus (data : List BusByte) (t : Tracked) (s : State) : State :=
  match t.latchWasSet, data with
  | true, b :: _ => s.setMem { s.mem with prot := .level (statusLevel b.sdi) }
  | _, _ => s

/-- WRITE_STATUS (R8). -/
def execWriteStatus (more : List BusByte) (s : State) (heard : Byte := 0) : Host.Outcome State Fault Refusal :=
  .next (finish (onCommand ⟨0x01, heard⟩ more (writeStatus more) s))

/-! ## Reads (R14) -/

/-- The controller drives `data` on SDO_U in place of the memory's last bytes, which it discards (R14). -/
def drivenOver (data : List Byte) (l : LineRecord) : LineRecord :=
  { l with bytes := l.bytes.take (l.bytes.length - data.length) ++ data }

/-- A tracked READ: at its third address byte the live image is frozen, and the data bytes at live-area addresses are driven
from it (R14). -/
def readData (more : List BusByte) (t : Tracked) (s : State) : State :=
  match addressOf ((more.take 3).map (·.sdi)) with
  | none => s
  | some a =>
    let image := liveImage s
    let reply := (more.drop 3).map (·.sdo)
    s.setMem { s.mem with
      image := some image, sdoU := drivenOver (substituteAll s.mem image a 0 reply) s.mem.sdoU,
      txn := .tracked { t with addr := some a, pos := reply.length } }

/-- READ (R14). -/
def execRead (more : List BusByte) (heard : Byte) (s : State) : Host.Outcome State Fault Refusal :=
  .next (finish (onCommand ⟨0x03, heard⟩ more (readData more) s))

/-! ## Writes (R9 to R11) -/

/-- A WRITE has its address once the third address byte is complete (R9). -/
def writeAddress (addr : List BusByte) (t : Tracked) (s : State) : State :=
  s.setMem { s.mem with txn := .tracked { t with addr := addressOf (addr.map (·.sdi)) } }

/-- WRITE (R9): the write's latch is taken at the command byte. -/
def execWrite (addr : List BusByte) (s : State) (heard : Byte := 0) : Host.Outcome State Fault Refusal :=
  .next (finish (onCommand ⟨0x02, heard⟩ addr (writeAddress addr) s))

/-- The address lies in the protected range of the protection mirror (R6). No landing is judged on an UNKNOWN mirror (R6); it
counts as protecting all. -/
def isProtected (m : MemoryPath) (a : Nat) : Bool :=
  match m.prot with
  | .unknown => true
  | .level 0 => false
  | .level 1 => decide (3 * m.size / 4 ≤ a)
  | .level 2 => decide (m.size / 2 ≤ a)
  | .level _ => true

/-- A check notice (R29, R30). -/
def checkNotice (c : PlanStore) : PlanStore :=
  match c.check with
  | .idle => { c with check := .running, pendingEdits := false }
  | .running | .stale => { c with check := .stale }

/-- An edit notice (R29, R30). -/
def editNotice (c : PlanStore) : PlanStore :=
  match c.check with
  | .idle => { c with pendingEdits := true }
  | .running | .stale => { c with check := .stale, pendingEdits := true }

/-- A landing in the plan area hands its notice, except while a load or reload is in progress (R11, R18). -/
def planNotice (o : Nat) (s : State) : State :=
  if s.mem.seq ≠ .idle then s
  else if o = 0x0003 then s.setPlan (checkNotice s.plan)
  else s.setPlan (editNotice s.plan)

/-- The trigger of a landed offset (R11). -/
def trigger (o : Nat) (v : Byte) (s : State) : State :=
  if o < 0x0B00 then planNotice o s
  else if o = 0x0C00 then landProducer v s
  else if o = 0x0C01 then s.setFaults { s.faults with ack := v }
  else s

/-- A byte lands at an address (R10). -/
def landAt (a : Nat) (v : Byte) (s : State) : State :=
  match windowOffset s.mem a with
  | some o =>
    if o < 0x0D00 then trigger o v (s.setPlan { s.plan with shadow := Shadow.write s.plan.shadow o v }) else s
  | none => s

/-- The position and the clocks after a data byte of a WRITE. -/
def nextPosition (t : Tracked) : Tracked := { t with pos := t.pos + 1, clocks := t.clocks + 8 }

/-- A data byte of a WRITE completes: it is forwarded (R3), and in a tracked transaction it lands where the write's latch was SET and its
address is unprotected (R9); in a held one it lands nothing and SDO_U reads ones (R16). -/
def dataByte (x : BusByte) (s : State) : State :=
  match s.mem.txn with
  | .tracked t =>
    match t.cls, t.addr with
    | some .write, some a =>
      let address := dataAddress s.mem a t.pos
      let u := s.setMem { forwardBytes [x] s.mem with txn := .tracked (nextPosition t) }
      if t.latchWasSet && !isProtected s.mem address then landAt address x.sdi u else u
    | _, _ => s
  | .held => onesReceived 1 s
  | .untracked => s.setMem (forwardBytes [x] s.mem)
  | .idle => s

/-- LANDED_BYTE (R10). -/
def execLandedByte (value : BusByte) (s : State) : Host.Outcome State Fault Refusal := .next (finish (dataByte value s))

/-! ## Unrecognised commands (R12) -/

/-- An unrecognised command byte: with the latch mirror SET the mirror-doubt flag is set and MIRROR_DOUBT reported (R12). -/
def raiseDoubt (t : Tracked) (s : State) : State :=
  if t.latchWasSet then report .mirrorDoubt noSubject (s.setMem { s.mem with doubt := true }) else s

/-- UNRECOGNISED_COMMAND (R12), forwarded unaltered; a recognised code does not arrive as this command. -/
def execUnrecognisedCommand (first : BusByte) (more : List BusByte) (s : State) : Host.Outcome State Fault Refusal :=
  .next (finish (if classify first.sdi = .unrecognised then onCommand first more raiseDoubt s else s))

/-! ## The end of a transaction (R3, R7 to R9, R14) -/

/-- The latch mirror after the CS_U# rise of a tracked transaction with `clocks` clocks in all (R7 to R9). -/
def latchAfterRise (t : Tracked) (clocks : Nat) (latch : LatchMirror) : LatchMirror :=
  match t.cls with
  | some .writeEnable => if clocks = 8 then .set else latch
  | some .writeDisable => if clocks = 8 then .clear else latch
  | some .writeStatus | some .write => .clear
  | some .readStatus | some .read | some .unrecognised | none => latch

/-- The bits of an incomplete byte on SDO_U: the memory's, but for a data byte of a READ that the live image drives (R14). -/
def lastBits (t : Tracked) (m : MemoryPath) (bits : List Bool) : List Bool :=
  match t.cls, t.addr, m.image with
  | some .read, some a, some image => substituteBits m image (dataAddress m a t.pos) bits
  | _, _, _ => bits

/-- The clocks after the last complete byte: in a held transaction SDO_U reads ones (R16), and a forwarded one passes them (R3). -/
def lastClocks (bits : List BusBit) (s : State) : State :=
  let out := bits.map (·.sdo)
  match s.mem.txn with
  | .held => s.setMem { s.mem with sdoU := { s.mem.sdoU with bits := s.mem.sdoU.bits ++ List.replicate bits.length true } }
  | .tracked t => s.setMem (forwardBits bits (lastBits t s.mem out) s.mem)
  | .untracked => s.setMem (forwardBits bits out s.mem)
  | .idle => s

/-- CS_U# rises: the latch mirror follows, the live image is released, and the transaction ends. -/
def csRises (clocks : Nat) (s : State) : State :=
  let latch := match s.mem.txn with
    | .tracked t => latchAfterRise t (t.clocks + clocks) s.mem.latch
    | .idle | .held | .untracked => s.mem.latch
  s.setMem { s.mem with latch := latch, image := none, txn := .idle }

/-- The end of a host transaction, after the bits of an incomplete byte (R3, R16). -/
def transactionEnd (bits : List BusBit) (s : State) : State := csRises bits.length (lastClocks bits s)

/-- HOST_TRANSACTION_END (R3). -/
def execHostTransactionEnd (bits : List BusBit) (s : State) : Host.Outcome State Fault Refusal :=
  .next (finish (transactionEnd bits s))

/-! ## Load and reload (R17) -/

/-- The controller's own transactions of a load or reload: WRITE DISABLE with exactly 8 clocks, READ STATUS of one byte, and one READ at
the window base of 3,328 bytes (R17, R189). -/
def sequenceTransactions (base : Nat) : List OwnTransaction :=
  [⟨[0x04], 8⟩, ⟨[0x05], 16⟩, ⟨[0x03, byteOf (base / 65536), byteOf (base / 256), byteOf base], 8 * (4 + 3328)⟩]

/-- The bus is free for a waiting sequence: steps 3 to 5 of R17. CS_M# stays low until step 6. -/
def sequenceRuns (status : Byte) (contents : List Byte) (s : State) : State :=
  if s.mem.seq = .waiting ∧ s.mem.txn = .idle then
    let t := s.setMem { s.mem with
      seq := .running, own := sequenceTransactions s.mem.base, latch := .clear, prot := .level (statusLevel status) }
    t.setPlan { t.plan with shadow := Shadow.ofBytes 0 (contents.take 3328) }
  else s

/-- SEQUENCE_BUS_FREE (R17). -/
def execSequenceBusFree (status : Byte) (contents : List Byte) (s : State) : Host.Outcome State Fault Refusal :=
  .next (finish (sequenceRuns status contents s))

/-- The end of a load synchronises the request unit (R67) and resumes a retained lockout (R181). -/
def endLoad (s : State) : State :=
  let count := Shadow.read s.plan.shadow 0x0C00
  resumeLockout (s.setReq { s.req with synced := true, producer := count, consumer := count })

/-- The end of a reload clears the mirror-doubt flag (R13). -/
def endReload (s : State) : State :=
  reportEnd .mirrorDoubt noSubject (s.setMem { s.mem with doubt := false, reload := false })

/-- Step 6 of R17: CS_M# and BUSY# are released, the sequence state becomes IDLE, and a plan check starts (R29). -/
def sequenceEnds (s : State) : State :=
  if s.mem.seq = .running then
    let t := s.setMem { s.mem with busy := false, seq := .idle }
    let u := if s.mem.reload then endReload t else endLoad t
    u.setPlan { u.plan with check := .running, pendingEdits := false }
  else s

/-- SEQUENCE_END (R17). -/
def execSequenceEnd (s : State) : Host.Outcome State Fault Refusal := .next (finish (sequenceEnds s))

end Sys2Proof.Machine
end

