-- ==== Sys2Proof/Machine/Reset.lean ====
section
/-!
DEFINITION. The resets: what every block takes at the start of each kind of reset, and what happens at its end (R1, R5, R20, R21,
R46, R51, R60, R68, R82, R105, R117, R138, R155, R181, R188).
-/

namespace Sys2Proof.Machine

/-! ## The start of a reset -/

/-- Of two kinds of reset that overlap, the one that gives the reset cause (R21). -/
def strongerReset : ResetKind → ResetKind → ResetKind
  | .power, _ => .power
  | _, .power => .power
  | .supply, _ => .supply
  | _, .supply => .supply
  | .pin, .pin => .pin

/-- The kind of the reset in progress once a reset of kind `k` has started. -/
def joinedReset (k : ResetKind) (inReset : Option ResetKind) : ResetKind :=
  match inReset with
  | some j => strongerReset k j
  | none => k

/-- A tracked transaction is interpreted no further once a reset has started (R5, R20); a held one stays held (R16). -/
def transactionAtReset : Transaction → Transaction
  | .tracked _ => .untracked
  | .idle => .idle
  | .held => .held
  | .untracked => .untracked

/-- The memory path at the start of a reset (R20). The sequence state is IDLE while the reset lasts and becomes WAITING, R20's value, at
its end, where the load starts (DESIGN CHOICE, assumption 41). -/
def memAtReset (k : ResetKind) (m : MemoryPath) : MemoryPath :=
  { m with
    latch := .unknown, prot := .unknown, doubt := false, heldCount := 0, busy := false, image := none, seq := .idle,
    reload := false, txn := transactionAtReset m.txn, inReset := some (joinedReset k m.inReset) }

/-- The clock and schedule unit at the start of a pin reset: run seconds, the clock and the valid flag are retained (R60). -/
def clockAtPinReset (c : ClockUnit) : ClockUnit :=
  { ClockUnit.afterPowerOn with
    runSeconds := c.runSeconds, day := c.day, minute := c.minute, second := c.second, valid := c.valid }

/-- The heat source at the start of a pin reset: the lockout cause, the retry count and the ignition log are retained, and the
last stop is the reset instant if BURN was on (R181). -/
def heatAtPinReset (now : Nat) (h : HeatSource) : HeatSource :=
  { HeatSource.afterPowerOn with
    cause := h.cause, retryCount := h.retryCount, ignitions := h.ignitions,
    lastStop := if burnOn h then now else h.lastStop }

/-- The blocks that take the same values at every kind of reset. -/
def blocksAtReset (k : ResetKind) (s : State) : State :=
  { s with
    mem := memAtReset k s.mem, plan := PlanStore.afterReset, req := RequestUnit.afterReset, ovr := OverrideList.afterReset,
    link := Link.afterReset, inp := InputUnit.afterReset, reg := Vector.replicate 12 ZoneReg.afterReset,
    drv := Vector.replicate 12 ZoneDrive.afterReset, grp := Vector.replicate 2 ⟨[], []⟩, faults := FaultUnit.afterReset }

/-- A power-on or supply reset. -/
def supplyLost (k : ResetKind) (s : State) : State :=
  ((blocksAtReset k s).setClk ClockUnit.afterPowerOn).setHeat HeatSource.afterPowerOn

/-- A pin reset. -/
def pinAsserted (s : State) : State :=
  ((blocksAtReset .pin s).setClk (clockAtPinReset s.clk)).setHeat (heatAtPinReset s.clk.runSeconds s.heat)

/-- POWER_ON_RESET (R20). -/
def execPowerOnReset (s : State) : Host.Outcome State Fault Refusal := .next (finish (supplyLost .power s))

/-- SUPPLY_RESET (R20). -/
def execSupplyReset (s : State) : Host.Outcome State Fault Refusal := .next (finish (supplyLost .supply s))

/-- PIN_RESET (R20). -/
def execPinReset (s : State) : Host.Outcome State Fault Refusal := .next (finish (pinAsserted s))

/-! ## The end of a reset -/

/-- The memory size of the straps (R1). -/
def strapSize (w : Straps) : Nat :=
  match w.msz1, w.msz0 with
  | false, false => 0x8000
  | false, true => 0x10000
  | true, false => 0x20000
  | true, true => 0x40000

/-- The window base of the straps (R1). -/
def strapBase (w : Straps) : Nat :=
  match w.wbs1, w.wbs0 with
  | false, false => 0x0000
  | false, true => 0x2000
  | true, false => 0x4000
  | true, true => strapSize w - 0x2000

/-- The memory path at the end of a reset: the cause is set, the straps are sampled, and the load waits for the bus with BUSY#
asserted (R1, R17, R20, R21). -/
def memAtResetEnd (w : Straps) (k : ResetKind) (m : MemoryPath) : MemoryPath :=
  { m with
    size := strapSize w, base := strapBase w, busy := true, seq := .waiting, reload := false, inReset := none, cause := k }

/-- A reset ends; CLOCK_INVALID is reported where the valid flag is clear (R51, R60). -/
def resetEnds (w : Straps) (s : State) : State :=
  match s.mem.inReset with
  | none => s
  | some k =>
    let t := s.setMem (memAtResetEnd w k s.mem)
    if t.clk.valid then t else report .clockInvalid noSubject t

/-- RESET_END (R21). -/
def execResetEnd (straps : Straps) (s : State) : Host.Outcome State Fault Refusal := .next (finish (resetEnds straps s))

end Sys2Proof.Machine
end

