-- ==== Sys2Proof/Machine/Dispatch.lean ====
section
/-!
DEFINITION. The dispatch of the commands: one arm per constructor of Instr, each one direct call of its meaning.
-/

namespace Sys2Proof.Machine

/-- The effect of a command on everything but the queue. -/
def exec (i : Instr) (s : State) : Host.Outcome State Fault Refusal :=
  match i with
  | .powerOnReset => Sys2Proof.Machine.execPowerOnReset s
  | .supplyReset => Sys2Proof.Machine.execSupplyReset s
  | .pinReset => Sys2Proof.Machine.execPinReset s
  | .resetEnd straps => Sys2Proof.Machine.execResetEnd straps s
  | .hostTransactionBegin => Sys2Proof.Machine.execHostTransactionBegin s
  | .writeEnable more heard => Sys2Proof.Machine.execWriteEnable s more heard
  | .writeDisable more heard => Sys2Proof.Machine.execWriteDisable s more heard
  | .readStatus more heard => Sys2Proof.Machine.execReadStatus more s heard
  | .writeStatus more heard => Sys2Proof.Machine.execWriteStatus more s heard
  | .read more heard => Sys2Proof.Machine.execRead more heard s
  | .write addr heard => Sys2Proof.Machine.execWrite addr s heard
  | .unrecognisedCommand first more => Sys2Proof.Machine.execUnrecognisedCommand first more s
  | .landedByte value => Sys2Proof.Machine.execLandedByte value s
  | .hostTransactionEnd bits => Sys2Proof.Machine.execHostTransactionEnd bits s
  | .sequenceBusFree status contents => Sys2Proof.Machine.execSequenceBusFree status contents s
  | .sequenceEnd => Sys2Proof.Machine.execSequenceEnd s
  | .planCheckCompletion => Sys2Proof.Machine.execPlanCheckCompletion s
  | .runSecond => Sys2Proof.Machine.execRunSecond s
  | .minuteTick => Sys2Proof.Machine.execMinuteTick s
  | .overrideExpiry => Sys2Proof.Machine.execOverrideExpiry s
  | .setClock => Sys2Proof.Machine.execSetClock s
  | .addOverride => Sys2Proof.Machine.execAddOverride s
  | .cancelOverride => Sys2Proof.Machine.execCancelOverride s
  | .clearLockout => Sys2Proof.Machine.execClearLockout s
  | .reload => Sys2Proof.Machine.execReload s
  | .unknownKind => Sys2Proof.Machine.execUnknownKind s
  | .pollTimerExpiry => Sys2Proof.Machine.execPollTimerExpiry s
  | .pipeUnitDue => Sys2Proof.Machine.execPipeUnitDue s
  | .echoMismatch place received => Sys2Proof.Machine.execEchoMismatch s place received
  | .contentionPauseEnd => Sys2Proof.Machine.execContentionPauseEnd s
  | .noReply => Sys2Proof.Machine.execNoReply s
  | .replyEnd chars => Sys2Proof.Machine.execReplyEnd chars s
  | .noiseCharacter => Sys2Proof.Machine.execNoiseCharacter s
  | .sampleEvent levels => Sys2Proof.Machine.execSampleEvent levels s
  | .debouncedLevelChange input => Sys2Proof.Machine.execDebouncedLevelChange input s
  | .flowLate => Sys2Proof.Machine.execFlowLate s
  | .flowNoFlow => Sys2Proof.Machine.execFlowNoFlow s
  | .cycleStart zone => Sys2Proof.Machine.execCycleStart zone s
  | .endEvent zone => Sys2Proof.Machine.execEndEvent zone s
  | .waitingRequestExpiry zone => Sys2Proof.Machine.execWaitingRequestExpiry zone s
  | .inrushEntryLeaves group => Sys2Proof.Machine.execInrushEntryLeaves group s
  | .movementEnd zone => Sys2Proof.Machine.execMovementEnd zone s
  | .prerunTimerExpiry => Sys2Proof.Machine.execPrerunTimerExpiry s
  | .postrunTimerExpiry => Sys2Proof.Machine.execPostrunTimerExpiry s
  | .lockoutPumpRunEnd => Sys2Proof.Machine.execLockoutPumpRunEnd s
  | .retryTimerExpiry => Sys2Proof.Machine.execRetryTimerExpiry s
  | .minOffPassing => Sys2Proof.Machine.execMinOffPassing s
  | .minOnPassing => Sys2Proof.Machine.execMinOnPassing s
  | .ignitionEntryLeaves => Sys2Proof.Machine.execIgnitionEntryLeaves s
  | .firingRun600s => Sys2Proof.Machine.execFiringRun600s s
  | .cylinderTimeout => Sys2Proof.Machine.execCylinderTimeout s
  | .cylinderBlockExpiry => Sys2Proof.Machine.execCylinderBlockExpiry s
  | .outdoorHoldExpiry => Sys2Proof.Machine.execOutdoorHoldExpiry s

end Sys2Proof.Machine
end

