-- ==== Sys2Proof/WellFormed.lean ====
section
/-!
DEFINITION. Which commands can arrive: the operand lengths and codes the bus rules allow.
-/

namespace Sys2Proof

/-- An address carries at most 3 complete bytes (R2, R9). -/
def wfWrite (addr : List BusByte) : Bool :=
  addr.length ≤ 3

/-- Eight clocks complete a byte (R3). -/
def wfIncomplete (bits : List BusBit) : Bool :=
  bits.length < 8

/-- An unrecognised code is none of the six of R189. -/
def wfUnrecognised (code : Byte) : Bool :=
  !([0x06, 0x04, 0x05, 0x01, 0x03, 0x02] : List Byte).contains code

/-- Step 5 of R17 reads window offsets 0x0000 to 0x0CFF, 3,328 bytes. -/
def wfContents (contents : List Byte) : Bool :=
  contents.length == 3328

/-- A reply ends 5 ms after a received stop bit, so it holds at least one character (R85, R89). -/
def wfReply (chars : List LinkChar) : Bool :=
  !chars.isEmpty

/-- The longest request, LIMITS, has 7 characters (R84). -/
def wfPlace (place : Option Nat) : Bool :=
  match place with
  | none => true
  | some k => decide (k < 7)

/-- The commands that can arrive. Every operand not named here is of a type that admits only what the spec admits. -/
def Instr.wellFormed : Instr → Bool
  | .write addr _ => wfWrite addr
  | .unrecognisedCommand first _ => wfUnrecognised first.sdi
  | .hostTransactionEnd bits => wfIncomplete bits
  | .sequenceBusFree _ contents => wfContents contents
  | .replyEnd chars => wfReply chars
  | .echoMismatch place _ => wfPlace place
  | .powerOnReset | .supplyReset | .pinReset | .resetEnd _ | .hostTransactionBegin | .writeEnable _ _ | .writeDisable _ _
  | .readStatus _ _ | .writeStatus _ _ | .read _ _ | .landedByte _ | .sequenceEnd | .planCheckCompletion
  | .runSecond | .minuteTick | .overrideExpiry | .setClock | .addOverride | .cancelOverride | .clearLockout | .reload
  | .unknownKind | .pollTimerExpiry | .pipeUnitDue | .contentionPauseEnd | .noReply | .noiseCharacter
  | .sampleEvent _ | .debouncedLevelChange _ | .flowLate | .flowNoFlow | .cycleStart _ | .endEvent _
  | .waitingRequestExpiry _ | .inrushEntryLeaves _ | .movementEnd _ | .prerunTimerExpiry | .postrunTimerExpiry
  | .lockoutPumpRunEnd | .retryTimerExpiry | .minOffPassing | .minOnPassing | .ignitionEntryLeaves | .firingRun600s
  | .cylinderTimeout | .cylinderBlockExpiry | .outdoorHoldExpiry => true

end Sys2Proof
end

