-- ==== Sys2Proof/Safety.lean ====
section
/-!
DEFINITION. The terms in which claims about runs are made: what a command leaves unchanged, the invariants that every step keeps, and
runs of several commands.
-/

namespace Sys2Proof.Machine

/-! ## Frames -/

/-- The components of the state. -/
inductive Block where
  | mem | plan | clk | req | ovr | link | inp | reg | drv | grp | heat | faults | pins | pending
deriving DecidableEq, Repr

/-- A component is unchanged from `s` to `t`. -/
def sameBlock (s t : State) : Block → Prop
  | .mem => t.mem = s.mem
  | .plan => t.plan = s.plan
  | .clk => t.clk = s.clk
  | .req => t.req = s.req
  | .ovr => t.ovr = s.ovr
  | .link => t.link = s.link
  | .inp => t.inp = s.inp
  | .reg => t.reg = s.reg
  | .drv => t.drv = s.drv
  | .grp => t.grp = s.grp
  | .heat => t.heat = s.heat
  | .faults => t.faults = s.faults
  | .pins => t.pins = s.pins
  | .pending => t.pending = s.pending

/-- Every component but those listed is unchanged. -/
def sameBesides (l : List Block) (s t : State) : Prop := ∀ b, b ∉ l → sameBlock s t b

/-- No change waits to be taken by the fault list, as holds between commands. -/
def Quiet (s : State) : Prop := s.faults.handed = []

/-! ## Invariants -/

/-- The fault list holds at most 16 entries, no two with the same code and subject, each with a count of 1 to 255 (R182). -/
def FaultListWf (f : FaultUnit) : Prop :=
  f.handed = [] ∧ f.entries.length ≤ 16 ∧ (f.entries.map fun e => (e.code, e.subject)).Nodup ∧
    ∀ e ∈ f.entries, 1 ≤ e.count ∧ e.count ≤ 255

/-- Between commands: a well-formed fault list, pins that follow the state (R16, R139, R162, R164, R187), and a shadow in its
canonical form. -/
def Settled (s : State) : Prop := FaultListWf s.faults ∧ s.pins = pinsOf s ∧ Shadow.wf s.plan.shadow = true

/-- The override list holds at most 16 entries, with distinct ids from 1 to 255, priorities 0 to 7, some zone each, and at least
one remaining minute (R75, R76). -/
def OverrideListWf (o : OverrideList) : Prop :=
  o.entries.length ≤ 16 ∧ (o.entries.map (·.id)).Nodup ∧ o.lastId ≤ 255 ∧
    ∀ e ∈ o.entries, 1 ≤ e.id ∧ e.id ≤ 255 ∧ e.priority ≤ 7 ∧ e.mask ≠ 0 ∧ 1 ≤ e.remaining

/-- Every override entry covers zones that are enabled in the active plan only, so with no plan adopted there is none, and has at most
65,535 remaining minutes (R75). -/
def OverridesFit (s : State) : Prop :=
  ∀ e ∈ s.ovr.entries, e.remaining ≤ 65535 ∧
    ∃ p, s.plan.active = some p ∧ ∀ z : Fin 12, e.mask.getLsbD z = true → p.zones[z].enabled = true

/-- A zone waits in the wait list of a group. -/
def waitsIn (p : Plan) (s : State) (z : Fin 12) (g : Fin 2) : Prop :=
  isRoom p z = true ∧ zoneGroup p z = g ∧ s.drv[z].request = .waiting

/-- Under an adopted plan each group's wait list holds its waiting zones, each once, and its energised output count is within its
max_energised (R139, R143). -/
def GroupsInOrder (s : State) : Prop :=
  ∀ p, s.plan.active = some p → ∀ g : Fin 2,
    s.grp[g].waitList.Nodup ∧ (∀ z, z ∈ s.grp[g].waitList ↔ waitsIn p s z g) ∧
      energisedCount p s g ≤ p.groups[g].maxEnergised

/-- Of two last grant times the first is older; "never granted" is older than every time (R143). -/
def grantedEarlier : Option Nat → Option Nat → Bool
  | none, some _ => true
  | some a, some b => decide (a < b)
  | _, none => false

/-- Zone `a` stands before zone `b` in a wait list: by priority, then by the older last grant time, then by zone number (R143). Group
limiting takes energised zones in the opposite order (R42). -/
def standsBefore (p : Plan) (s : State) (a b : Fin 12) : Bool :=
  let x := p.zones[a].priority
  let y := p.zones[b].priority
  let f := s.drv[a].lastGrant
  let g := s.drv[b].lastGrant
  decide (x < y) || (decide (x = y) && (grantedEarlier f g || (decide (f = g) && decide (a < b))))

/-- Under an adopted plan each group's wait list is in the order of R143. -/
def WaitListsOrdered (s : State) : Prop :=
  ∀ p, s.plan.active = some p → ∀ g : Fin 2, s.grp[g].waitList.Pairwise fun a b => standsBefore p s a b = true

/-- The heat source is in PRERUN or FIRING. -/
def burnerRuns (s : State) : Prop := s.heat.state = .prerun ∨ s.heat.state = .firing

/-- The burner is fired, or prepared, only under a plan, with a usable pipe unit and below cap level CAP2, and in PRERUN start permission
holds for a served service (R164, R165, R167, R170). -/
def BurnerGuard (s : State) : Prop :=
  (burnerRuns s → ∃ p, s.plan.active = some p ∧ pipeUsable p s = true ∧ s.heat.cap ≠ .cap2) ∧
  (s.heat.state = .prerun → ∃ p, s.plan.active = some p ∧ ∃ v, served s = some v ∧ startBlock p s v = .none)

/-! ## The supply groups' heads -/

/-- The head of a group's wait list, if any, has neither reached its requested end nor may be granted (R144, R145). -/
def HeadWaits (p : Plan) (s : State) (g : Fin 2) : Prop :=
  ∀ z, s.grp[g].waitList.head? = some z → requestEnded s z = false ∧
    (p.groups[g].maxEnergised < energisedCount p s g + outputCount p.zones[z].mask ∨
      p.groups[g].inrushMax ≤ s.grp[g].inrush.length ∨ s.inp.supplyLow[g] = true)

/-! ## Services and DIV -/

/-- A service's priority level in the header; the numerically lower is the higher priority (R158). -/
def headerPriority (h : Header) : Service → Nat
  | .frost => h.frostPriority
  | .cylinder => h.cylPriority
  | .heating => h.heatPriority

/-- A service calls (R156, R157). -/
def ServiceCalls (p : Plan) (s : State) : Service → Prop
  | .frost => s.heat.frostCall = true
  | .cylinder => s.heat.cylBlock = none ∧ ∃ z : Fin 12, isCylinder p z = true ∧ s.reg[z].call = true
  | .heating => ∃ z : Fin 12, isRoom p z = true ∧ s.reg[z].call = true

/-- A service's position of DIV is on (R162). -/
def OnCylinderPath (p : Plan) : Service → Prop
  | .heating => False
  | .cylinder => True
  | .frost => p.header.cylPathForFrost = true ∧ ∃ z : Fin 12, isCylinder p z = true

/-- Under a plan that the check admits the in-service list is in the strict order of the header's priorities, so no service stands in it
twice, every entry calls, its head is the highest-priority calling service, and no cylinder zone calls during a block; with no plan it is
empty (R135, R156, R158, R159, R161). -/
def ServicesInOrder (s : State) : Prop :=
  (s.plan.active = none → s.heat.inService = []) ∧
  ∀ p, s.plan.active = some p → reportedViolation p = none ∧
    (s.heat.inService.Pairwise fun a b => headerPriority p.header a < headerPriority p.header b) ∧
    (∀ v ∈ s.heat.inService, ServiceCalls p s v) ∧
    (∀ v, ServiceCalls p s v → ∃ h, served s = some h ∧ headerPriority p.header h ≤ headerPriority p.header v) ∧
    (s.heat.cylBlock ≠ none → ∀ z : Fin 12, isCylinder p z = true → s.reg[z].call = false)

/-- DIV has the position of the served service in HELD, PRERUN and FIRING, and is off in OFF and in LOCKOUT outside the pump run of
OVERHEAT (R162). -/
def DivFollows (s : State) : Prop :=
  (s.heat.state = .off → s.heat.div = false) ∧
  (s.heat.state = .lockout → ¬(s.heat.cause = .overheat ∧ s.heat.pumpRunExpiry.isSome = true) → s.heat.div = false) ∧
  ∀ p v, s.plan.active = some p → served s = some v →
    (s.heat.state = .held ∨ s.heat.state = .prerun ∨ s.heat.state = .firing) → (s.heat.div = true ↔ OnCylinderPath p v)

/-! ## Start permission -/

/-- An event that takes `s` to `t` judges start permission for the served service (R165 to R167, R171): OFF and HELD go to PRERUN or to
HELD with the first failing condition, PRERUN and POSTRUN stay or go to HELD and PRERUN. -/
def PermissionJudged (p : Plan) (s t : State) : Prop :=
  ∀ v, served s = some v →
    let why := startBlock p t v
    ((s.heat.state = .off ∨ s.heat.state = .held) →
      (why = .none → t.heat.state = .prerun ∧ t.heat.hold = .none ∧ t.pins.pump = true ∧
        t.heat.prerunExpiry = some (s.clk.runSeconds + p.header.prerun)) ∧
      (why ≠ .none → t.heat.state = .held ∧ t.heat.hold = why ∧ t.pins.pump = false)) ∧
    (s.heat.state = .prerun →
      (why = .none → t.heat.state = .prerun ∧ t.heat.prerunExpiry = s.heat.prerunExpiry) ∧
      (why ≠ .none → t.heat.state = .held ∧ t.heat.hold = why ∧ t.pins.pump = false)) ∧
    (s.heat.state = .postrun →
      (why = .none → t.heat.state = .prerun ∧ t.pins.pump = true) ∧ (why ≠ .none → t.heat.state = .postrun))

/-! ## Flow target and duty -/

/-- The flow target and the duty are what R179 and R180 give in the state, for the served service and the effective cap, where flow_min is
not above flow_max; with no served service they are 0 outside FIRING. At CAP2 R180 states no target (assumption 10). -/
def FlowTargetFormed (p : Plan) (s : State) : Prop :=
  let h := p.header
  h.flowMin ≤ h.flowMax →
    (∀ v, served s = some v →
      let r := highestTarget p s
      let o := max (-640) (min 400 (outdoorInUse p s))
      let sum := r + ((h.slope : Int) * (r - o)).tdiv 10 + h.shift * 8 + ((highestDemand p s : Int) * h.dshift * 16).tdiv 255
      let target := match v with
        | .heating => max ((h.flowMin : Int) * 16) (min ((h.flowMax : Int) * 16) sum)
        | .cylinder => (h.cylFlow : Int) * 16
        | .frost => 480
      (effectiveCap s = .cap0 → s.heat.flowTarget = target) ∧
      (effectiveCap s = .cap1 → s.heat.flowTarget = min target ((h.cap1Flow : Int) * 16)) ∧
      (s.heat.duty : Int) = max 0 (min 255 (((s.heat.flowTarget - 160) * 255).tdiv 1280))) ∧
    (served s = none → s.heat.state ≠ .firing → s.heat.flowTarget = 0 ∧ s.heat.duty = 0)

/-- A zone whose window state is OPEN is in WINDOW, and no zone in WINDOW calls for heat (R118, R120, R121, R133, R135). -/
def WindowsSilent (s : State) : Prop :=
  ∀ z : Fin 12, (s.inp.windowOpen[z] = true → s.reg[z].mode = .window) ∧ (s.reg[z].mode = .window → s.reg[z].call = false)

/-! ## The end of a plan check -/

/-- A check refuses the plan for the violation `v`: the plan store's fields, the plan in force kept, and what the fault list takes
beside `rises` rises of the attention number (R33, R183, R186). -/
def RefusalTaken (v : Violation) (rises : Byte) (s t : State) : Prop :=
  let clamps := planClamps (storedPlan s.plan.shadow)
  let f := { s.faults with attention := s.faults.attention + rises }
  t.plan = { s.plan with
    check := .idle, lastResult := .refused v.code, lastOffset := v.offset, clampCount := min 255 clamps.length,
    firstClamp := clamps.foldl min 0xFFFF } ∧
  (s.plan.active ≠ none → t.faults = applyArises f .planRefused 255) ∧
  (s.plan.active = none → v.code = .magic → t.faults = applyArises f .noPlan 255) ∧
  (s.plan.active = none → v.code ≠ .magic → t.faults = applyArises (applyArises f .planRefused 255) .noPlan 255)

/-- A check adopts the working values of the shadow: the plan store's fields, and what the fault list takes, as one event, beside `rises`
rises of the attention number: PLAN_REFUSED and NO_PLAN leave, and the reconciled blocks hand it the codes listed (R34, R185, R186). -/
def AdoptionTaken (rises : Byte) (s t : State) : Prop :=
  let clamps := planClamps (storedPlan s.plan.shadow)
  t.plan = { s.plan with
    active := some (workingPlan (storedPlan s.plan.shadow)), check := .idle, lastResult := .adopted, lastOffset := 0xFFFF,
    clampCount := min 255 clamps.length, firstClamp := clamps.foldl min 0xFFFF } ∧
  (Quiet s →
    (∀ f ∈ t.faults.entries, f.code = .planRefused ∨ f.code = .noPlan → f.subject ≠ 255) ∧
    ∃ news, t.faults = takeNews { s.faults with
        attention := s.faults.attention + rises, handed := .ends .planRefused 255 :: .ends .noPlan 255 :: news } ∧
      ∀ n ∈ news, (match n with
        | .arises code _ => code
        | .ends code _ => code) ∈
        [FaultCode.sensorLost, .sensorType, .zoneFallback, .boilerFault, .cylTimeout, .supplyLow])

/-! ## Fields of the live image -/

/-- The number that bytes spell, least significant byte first (section 3.2 of 00_scope.md). -/
def littleEndian : List Byte → Nat
  | [] => 0
  | b :: rest => b.toNat + 256 * littleEndian rest

/-- The field of `n` bytes at an offset of a record. -/
def recordField (record : List Byte) (offset n : Nat) : Nat := littleEndian ((record.drop offset).take n)

/-! ## Replies of the sensor link -/

/-- The characters of a reply with the given data bytes: every one well framed and with mark bit 0 (R85). -/
def unmarked (l : List Byte) : List LinkChar := l.map fun d => ⟨d, false, true⟩

/-- An enabled zone names a sensor entry. -/
def namesEntry (p : Plan) (z : Fin 12) (e : Fin 16) : Prop := p.zones[z].enabled = true ∧ p.zones[z].sensor = e.val

/-- A reply is invalid for the request in progress: badly framed, with a mark bit, from another address, of another length, or with a sum
other than 0 (R85, R89). -/
def ReplyInvalid (x : LinkTransaction) (chars : List LinkChar) : Prop :=
  (∃ c ∈ chars, c.framed = false ∨ c.mark = true) ∨ chars.head?.map (·.data) ≠ x.frame.head?.map (·.data) ∨
  chars.length ≠ (match x.command with
    | .sample => 5
    | .report => 8
    | .limits => 3) ∨
  (chars.map (·.data.toNat)).sum % 256 ≠ 0

/-- A transaction of a command to the entry `e` starts at the link time `now` and takes the link from `l` to `t`: the request carries the
unit's address with mark bit 1, the command's code, the band limits in sixteenths for LIMITS, and the check character that makes the sum 0
modulo 256; a SAMPLE or REPORT raises the entry's report counter modulo 8; the pipe last attempt takes the time for the pipe unit, and
the rotation position moves past another entry (R84, R86, R97 to R100). -/
def TransactionStarts (p : Plan) (now : Nat) (e : Fin 16) (command : LinkCommand) (l t : Link) : Prop :=
  (∀ k : Fin 16, t.entries[k] =
    if k = e ∧ command ≠ .limits then { l.entries[k] with reportCounter := (l.entries[k].reportCounter + 1) % 8 }
    else l.entries[k]) ∧
  ∃ x : LinkTransaction,
    t = { l with
      state := .busy, pollExpiry := some (now + 100), txn := some x, entries := t.entries
      pipeLast := if pipeUnit p = some e then some now else l.pipeLast
      rotation := if pipeUnit p = some e then l.rotation else e + 1 } ∧
    x.entry = e ∧ x.command = command ∧ x.second = false ∧ x.dropped = false ∧ x.markedSince = false ∧ x.started = now ∧
    x.frame.map (·.mark) = true :: List.replicate (if command = .limits then 6 else 2) false ∧
    (x.frame.map (·.data)).dropLast = byteOf p.sensors[e].address :: (match command with
      | .sample => [0x21]
      | .report => [0x22]
      | .limits => 0x23 :: bytes16 (p.header.bandLow * 16) ++ bytes16 (p.header.bandMid * 16)) ∧
    (x.frame.map (·.data.toNat)).sum % 256 = 0

/-- The link chooses at the link time `now`, from `l` to `t`: where it is IDLE with the poll timer expired it starts a transaction to a due
pipe unit, LIMITS while the mark is set, and else to the first rotation entry from the rotation position on; where it is not, or has no
choice, it stays as it is (R86, R97 to R99). -/
def LinkChooses (p : Plan) (now : Nat) (l t : Link) : Prop :=
  let idle : Prop := l.state = .idle ∧ ∀ x, l.pollExpiry = some x → x ≤ now
  let due : Prop := ∀ x, l.pipeLast = some x → x + 500 ≤ now
  let poll (e : Fin 16) : LinkCommand :=
    if l.entries[e].state = .searching ∨ l.entries[e].typeFault = true ∨ l.entries[e].reportCounter = 7 then .report else .sample
  let rotates (k : Fin 16) : Prop := l.entries[k].state ≠ .off ∧ pipeUnit p ≠ some k
  (¬idle → t = l) ∧
  (idle →
    (∀ e, pipeUnit p = some e → due → TransactionStarts p now e (if l.limitsMark then .limits else poll e) l t) ∧
    (pipeUnit p = none ∨ ¬due →
      (∀ k : Fin 16, rotates (l.rotation + k) → (∀ j : Fin 16, j < k → ¬rotates (l.rotation + j)) →
        TransactionStarts p now (l.rotation + k) (poll (l.rotation + k)) l t) ∧
      ((∀ k : Fin 16, ¬rotates k) → t = l)))

/-- What a miss of the entry `e` does from `s` to `t`, where `old` is the entry before it and `l` the link before it chooses: the entry's
states and counts; the LIMITS mark where the pipe unit enters LOST; FALLBACK for the RUNNING zones that name an entry that goes from STALE
to LOST; the stop of a burner that fires with that entry as its pipe unit; and for the outdoor unit the hold, which starts at its entry
into LOST with a held value and ends at another change of its state, with the flow target computed again (R92, R95, R96, R100, R119, R134,
R135, R170, R178, R180). -/
def MissTaken (p : Plan) (e : Fin 16) (old : SensorEntry) (s : State) (l : Link) (t : State) : Prop :=
  let sixth := 6 ≤ old.misses + 1
  let lost := old.state = .stale ∧ sixth
  let new := (entryMiss old).state
  l.entries[e] = entryMiss old ∧ (∀ k : Fin 16, k ≠ e → l.entries[k] = s.link.entries[k]) ∧
  (l.limitsMark = true ↔
    s.link.limitsMark = true ∨ ((old.state = .searching ∨ old.state = .stale) ∧ sixth ∧ pipeUnit p = some e)) ∧
  (∀ z : Fin 12, lost → namesEntry p z e → s.reg[z].mode = .running →
    t.reg[z].mode = .fallback ∧ t.reg[z].latch = false ∧ (isCylinder p z = true → t.reg[z].call = false) ∧
    t.reg[z] = { s.reg[z] with mode := .fallback, latch := false, call := t.reg[z].call } ∧
    (isCylinder p z = false → t.reg[z].call = s.reg[z].call)) ∧
  (∀ z : Fin 12, ¬(lost ∧ namesEntry p z e ∧ (s.reg[z].mode = .running ∨ isCylinder p z = true)) → t.reg[z] = s.reg[z]) ∧
  (pipeUnit p = some e → lost → s.heat.state = .firing →
    t.heat.state = .postrun ∧ t.heat.lastStop = s.clk.runSeconds ∧ t.pins.burn = false ∧ t.pins.pump = true) ∧
  (outdoorUnit p ≠ some e ∨ new = old.state → t.heat.outdoorHold = s.heat.outdoorHold) ∧
  (outdoorUnit p = some e → new ≠ old.state → FlowTargetFormed p t ∧
    (new = .lost → old.held ≠ none → t.heat.outdoorHold = some s.clk.runSeconds) ∧
    (new ≠ .lost → t.heat.outdoorHold = none))

/-! ## Runs -/

/-- The commands of a list taken one after another, the queue apart. -/
def execAll : List Instr → State → Host.Outcome State Fault Refusal
  | [], s => .next s
  | c :: rest, s =>
    match exec c s with
    | .next t => execAll rest t
    | .fault f => .fault f
    | .refused r => .refused r

/-- The command that starts a reset of a kind. -/
def resetCommand : ResetKind → Instr
  | .power => .powerOnReset
  | .supply => .supplyReset
  | .pin => .pinReset

/-! ## Commands of the bus -/

/-- The complete bytes that a bus command carries: its command byte, and its address and data bytes (R3, R189). -/
def carried : Instr → List BusByte
  | .writeEnable more heard => ⟨0x06, heard⟩ :: more
  | .writeDisable more heard => ⟨0x04, heard⟩ :: more
  | .readStatus more heard => ⟨0x05, heard⟩ :: more
  | .writeStatus more heard => ⟨0x01, heard⟩ :: more
  | .read more heard => ⟨0x03, heard⟩ :: more
  | .write addr heard => ⟨0x02, heard⟩ :: addr
  | .unrecognisedCommand first more => first :: more
  | .landedByte value => [value]
  | .powerOnReset | .supplyReset | .pinReset | .resetEnd _ | .hostTransactionBegin | .hostTransactionEnd _
  | .sequenceBusFree _ _ | .sequenceEnd | .planCheckCompletion
  | .runSecond | .minuteTick | .overrideExpiry | .setClock | .addOverride | .cancelOverride | .clearLockout | .reload
  | .unknownKind | .pollTimerExpiry | .pipeUnitDue | .echoMismatch _ _ | .contentionPauseEnd | .noReply | .replyEnd _
  | .noiseCharacter | .sampleEvent _ | .debouncedLevelChange _ | .flowLate | .flowNoFlow | .cycleStart _ | .endEvent _
  | .waitingRequestExpiry _ | .inrushEntryLeaves _ | .movementEnd _ | .prerunTimerExpiry | .postrunTimerExpiry
  | .lockoutPumpRunEnd | .retryTimerExpiry | .minOffPassing | .minOnPassing | .ignitionEntryLeaves | .firingRun600s
  | .cylinderTimeout | .cylinderBlockExpiry | .outdoorHoldExpiry => []

/-- The commands whose bytes travel in a host transaction. -/
def isBusCommand (c : Instr) : Bool := !(carried c).isEmpty

/-- What the host sends on SDI_U in those bytes. -/
def sentBytes (c : Instr) : List Byte := (carried c).map (·.sdi)

/-- What the memory drives on SDO_M in those bytes. -/
def heardBytes (c : Instr) : List Byte := (carried c).map (·.sdo)

/-- A command may come next in a tracked transaction: a data byte of a WRITE after its address, and another command as the first. -/
def comesNext (u : Tracked) : Instr → Bool
  | .landedByte _ => decide (u.cls = some .write) && u.addr.isSome
  | .writeEnable _ _ | .writeDisable _ _ | .readStatus _ _ | .writeStatus _ _ | .read _ _ | .write _ _ | .unrecognisedCommand _ _ =>
    u.cls.isNone
  | .powerOnReset | .supplyReset | .pinReset | .resetEnd _ | .hostTransactionBegin | .hostTransactionEnd _
  | .sequenceBusFree _ _ | .sequenceEnd | .planCheckCompletion
  | .runSecond | .minuteTick | .overrideExpiry | .setClock | .addOverride | .cancelOverride | .clearLockout | .reload
  | .unknownKind | .pollTimerExpiry | .pipeUnitDue | .echoMismatch _ _ | .contentionPauseEnd | .noReply | .replyEnd _
  | .noiseCharacter | .sampleEvent _ | .debouncedLevelChange _ | .flowLate | .flowNoFlow | .cycleStart _ | .endEvent _
  | .waitingRequestExpiry _ | .inrushEntryLeaves _ | .movementEnd _ | .prerunTimerExpiry | .postrunTimerExpiry
  | .lockoutPumpRunEnd | .retryTimerExpiry | .minOffPassing | .minOnPassing | .ignitionEntryLeaves | .firingRun600s
  | .cylinderTimeout | .cylinderBlockExpiry | .outdoorHoldExpiry => false

end Sys2Proof.Machine
end

