-- ==== Sys2Proof/Certificates/Slice0/Obligations.lean ====
section
/-!
DEFINITION. The statements for the provers, in the order of the spec's chapters.
-/

open Sys2Proof Sys2Proof.Machine

/-! ## The machine as a whole -/

/-- A step takes the command at the front of the queue and runs it with the rest; an empty queue idles (model's choice, assumption
12). -/
def Obligations.StepTakesTheFrontCommand : Prop :=
  (∀ s : State, s.pending = [] → step s = .next s) ∧
  ∀ (s : State) (c : Instr) (rest : List Instr), s.pending = c :: rest → step s = exec c (s.setPending rest)

/-- No command changes the queue of waiting commands: their senders alone fill it (the queue is the model's own, assumption 12). -/
def Obligations.CommandsLeaveTheQueue : Prop :=
  ∀ (c : Instr) (s t : State), exec c s = .next t → t.pending = s.pending

/-- The state after reset holds the values that R17, R20, R46, R60, R68, R82, R155, R181 and R188 state, and satisfies the invariants. That
the power-on reset has just ended with the load waiting, and the straps and the bus idle, is the model's choice (assumption 7), and so is
the shadow's canonical form (assumption 9). -/
def Obligations.ResetStateValues : Prop :=
  State.reset.plan.active = none ∧ State.reset.plan.lastOffset = 0xFFFF ∧ State.reset.plan.firstClamp = 0xFFFF ∧
  State.reset.clk.runSeconds = 0 ∧ State.reset.clk.valid = false ∧ State.reset.req.synced = false ∧
  State.reset.ovr.entries = [] ∧ State.reset.ovr.lastId = 0 ∧ State.reset.heat.state = .off ∧
  State.reset.faults.entries = [⟨.clockInvalid, 255, 1⟩] ∧ State.reset.faults.attention = 2 ∧
  State.reset.pins.busy = true ∧ State.reset.pins.attn = true ∧ State.reset.pins.act = 0 ∧
  State.reset.mem.seq = .waiting ∧ Settled State.reset ∧ OverrideListWf State.reset.ovr ∧ OverridesFit State.reset ∧
  GroupsInOrder State.reset ∧ WaitListsOrdered State.reset ∧ BurnerGuard State.reset ∧ ServicesInOrder State.reset ∧
  DivFollows State.reset ∧ WindowsSilent State.reset

/-- Every step keeps the fault list well formed (R182 to R185), the pins at what the state decides (R16, R139, R164, R187), and the
shadow in its canonical form (model's choice, assumption 9). -/
def Obligations.EveryStepSettles : Prop :=
  ∀ s t : State, Settled s → step s = .next t → Settled t

/-- Every step keeps the override list well formed, with masks of zones that are enabled in the active plan, no entry while no plan is
adopted, and at most 65,535 remaining minutes (R75, R76, R79, R39). -/
def Obligations.EveryStepKeepsTheOverrideList : Prop :=
  ∀ s t : State, OverrideListWf s.ovr → step s = .next t → OverrideListWf t.ovr ∧ (OverridesFit s → OverridesFit t)

/-- Every step keeps each supply group's outputs within its max_energised, its wait list in step with the request states, and the list
in the order of priority, then of the oldest last grant time, then of the zone number; and a zone is granted only with supply low inactive
and a place free in the inrush log, which then holds at most inrush_max entries, the grant's the last, and the grant is its last grant time
(R139, R140, R143 to R147, R150, R42). -/
def Obligations.EveryStepKeepsTheGroupsInOrder : Prop :=
  ∀ s t : State, GroupsInOrder s → step s = .next t →
    GroupsInOrder t ∧ (WaitListsOrdered s → WaitListsOrdered t) ∧
    ∀ p, t.plan.active = some p → ∀ z : Fin 12, isRoom p z = true → t.drv[z].request = .energised →
      (s.drv[z].request ≠ .energised ∨ t.drv[z].lastGrant ≠ s.drv[z].lastGrant) →
      let g := zoneGroup p z
      t.drv[z].lastGrant = some s.clk.runSeconds ∧ t.grp[g].inrush.getLast? = some s.clk.runSeconds ∧
        t.grp[g].inrush.length ≤ p.groups[g].inrushMax ∧ t.inp.supplyLow[g] = false

/-- Every step keeps the burner from firing, and from preparing to, without a usable pipe unit or at CAP2, and PRERUN within start
permission; so a step enters FIRING only with fewer than ign_max entries in the ignition log and min_off passed since the last stop, and
it then adds an entry. Only an entry's leaving and the power-on and supply resets take an entry out of the log, and outside a reset only
a burner stop changes the last-stop time (R164, R165, R167, R168, R170, R181). -/
def Obligations.EveryStepGuardsTheBurner : Prop :=
  (∀ s t : State, BurnerGuard s → step s = .next t →
    BurnerGuard t ∧
    (s.heat.state ≠ .firing → t.heat.state = .firing → ∃ p, s.plan.active = some p ∧
      s.heat.ignitions.length < p.header.ignMax ∧ s.heat.lastStop + p.header.minOff * 60 ≤ s.clk.runSeconds ∧
      t.heat.ignitions = s.heat.ignitions ++ [s.clk.runSeconds] ∧ t.heat.burnerStart = s.clk.runSeconds)) ∧
  ∀ (c : Instr) (s t : State), exec c s = .next t →
    (c ≠ .ignitionEntryLeaves → c ≠ .powerOnReset → c ≠ .supplyReset → s.heat.ignitions <+: t.heat.ignitions) ∧
    ((∀ k, c ≠ resetCommand k) → t.heat.lastStop =
      if s.heat.state = .firing ∧ t.heat.state ≠ .firing then s.clk.runSeconds else s.heat.lastStop)

/-- Every step keeps the in-service list in the order of the header's priorities, with calling services only and the highest-priority
calling service that is not under cylinder block at its head, and keeps DIV at the position of the state and the served service: while
FIRING with no served service it stays where it was when the service left, in POSTRUN and during the OVERHEAT pump run it stays where it
was, as it does at a burner stop at which the served service and the plan stay (R135, R156, R158, R159, R161, R162). -/
def Obligations.EveryStepServesByPriority : Prop :=
  ∀ s t : State, ServicesInOrder s → DivFollows s → step s = .next t →
    ServicesInOrder t ∧ DivFollows t ∧
    (s.heat.state = .firing → t.heat.state = .firing → served t = none →
      (served s = none → t.heat.div = s.heat.div) ∧
      (s.pending.head? ≠ some .planCheckCompletion →
        (∀ p v, s.plan.active = some p → ServiceCalls p s v → served s = some v) → t.heat.div = s.heat.div)) ∧
    (s.heat.state = .postrun → t.heat.state = .postrun → t.heat.div = s.heat.div) ∧
    (s.heat.state = .lockout → t.heat.state = .lockout → t.heat.pumpRunExpiry.isSome = true → t.heat.div = s.heat.div) ∧
    (s.heat.state = .firing → (t.heat.state = .postrun ∨ (t.heat.state = .lockout ∧ t.heat.cause = .overheat)) →
      served t = served s → t.plan.active = s.plan.active → t.heat.div = s.heat.div)

/-! ## Resets -/

/-- The plan store's values at the three kinds of reset; the load fills the shadow and its end starts a check (R46). -/
def Obligations.PlanStoreAtEveryReset : Prop :=
  (∀ (s : State) (k : ResetKind), ∃ t, exec (resetCommand k) s = .next t ∧
    t.plan.active = none ∧ planStatus t = .none ∧ (liveImage t)[3]? = some 0 ∧ t.plan.check = .idle ∧
    t.plan.lastResult = .none ∧ t.plan.lastOffset = 0xFFFF ∧ t.plan.pendingEdits = false ∧ t.plan.clampCount = 0 ∧
    t.plan.firstClamp = 0xFFFF ∧ t.plan.restarts = 0) ∧
  (∀ (s : State) (status : Byte) (contents : List Byte),
    s.mem.seq = .waiting → s.mem.txn = .idle → contents.length = 3328 →
    ∃ t, exec (.sequenceBusFree status contents) s = .next t ∧
      ∀ o, o < 3328 → contents[o]? = some (Shadow.read t.plan.shadow o)) ∧
  (∀ s : State, s.mem.seq = .running → ∃ t, exec .sequenceEnd s = .next t ∧ t.plan.check = .running)

/-- What every block but the plan store holds at each kind of reset: the memory path, the time base, the request unit, the override list,
the sensor link, the input unit, the zone regulator, the drives, the heat source, the fault list and the pins (R5, R16, R17, R20, R60, R68,
R82, R105, R117, R138, R155, R181, R188), taken at the start of the reset (model's choice, assumption 14); CS_M# rises unless a forwarded
transaction runs on. -/
def Obligations.BlocksAtEveryReset : Prop :=
  (∀ (s : State) (k : ResetKind), ∃ t, exec (resetCommand k) s = .next t ∧
    (t.mem.latch = .unknown ∧ t.mem.prot = .unknown ∧ t.mem.doubt = false ∧ t.mem.heldCount = 0 ∧ t.mem.busy = false ∧
      t.mem.image = none ∧ t.mem.seq ≠ .running ∧ (t.pins.csM = true ↔ s.mem.txn ≠ .idle ∧ s.mem.txn ≠ .held)) ∧
    t.req = { synced := false, producer := 0, consumer := 0, inFlight := none, overrun := 0,
              results := Vector.replicate 16 ⟨0, .none, 0, 0⟩ } ∧
    t.ovr = { entries := [], lastId := 0 } ∧
    (t.link.state = .inactive ∧ t.link.pollExpiry = none ∧ t.link.pipeLast = none ∧ t.link.rotation = 0 ∧
      t.link.contentions = 0 ∧ t.link.limitsMark = false ∧ t.link.noise = 0 ∧ t.link.txn = none ∧
      ∀ e : Fin 16, t.link.entries[e] = {
        state := .off, misses := 0, held := none, readTime := none, faultFlag := false, supplyFlag := false,
        typeFault := false, lastBand := 0, reportCounter := 0, successes := 0, failures := 0 }) ∧
    ((∀ i : Fin 8, t.inp.pins[i].pending = none ∧ t.inp.pins[i].active = false ∧ t.inp.pins[i].edges = 0) ∧
      (∀ z : Fin 12, t.inp.windowOpen[z] = false ∧ t.inp.windowEvents[z] = 0) ∧ t.inp.boilerFault = false ∧
      (∀ g : Fin 2, t.inp.supplyLow[g] = false) ∧ t.inp.capture = 0 ∧ t.inp.period = 0 ∧ t.inp.pulses = 0 ∧
      t.inp.flow = ⟨false, false, false⟩) ∧
    (∀ z : Fin 12, t.reg[z] = {
      mode := .disabled, measured := none, integral := 0, demand := 0, onTime := 0, allowance := 0, starved := false,
      call := false, latch := false }) ∧
    (∀ z : Fin 12, t.drv[z].cycleStart = none ∧ t.drv[z].reqEnd = .none ∧ t.drv[z].energisedTime = 0) ∧
    (t.heat.frostCall = false ∧ t.heat.hold = .none ∧ t.heat.boilerNoted = false ∧ t.heat.prerunExpiry = none ∧
      t.heat.postrunExpiry = none ∧ t.heat.pumpRunExpiry = none ∧ t.heat.retryExpiry = none ∧ t.heat.outdoorHold = none ∧
      t.heat.flowTarget = 0 ∧ t.heat.duty = 0) ∧
    (t.faults.entries = [] ∧ t.faults.overflow = 0 ∧ t.faults.attention = 1 ∧ t.faults.ack = 0) ∧
    t.clk.tickCounter = 0 ∧ (∀ z : Fin 12, t.clk.level[z] = none ∧ t.clk.target[z] = 0) ∧
    t.heat.state = .off ∧ t.heat.inService = [] ∧ t.heat.cap = .cap0 ∧ t.heat.cylTimer = 0 ∧ t.heat.cylBlock = none ∧
    (∀ z : Fin 12, t.drv[z].request = .idle ∧ t.drv[z].valve = .closed ∧ t.drv[z].lastGrant = none) ∧
    (∀ g : Fin 2, t.grp[g].waitList = [] ∧ t.grp[g].inrush = []) ∧
    t.pins.act = 0 ∧ t.pins.burn = false ∧ t.pins.pump = false ∧ t.pins.div = false ∧ t.pins.fto = 0 ∧
    t.pins.busy = false ∧ t.pins.attn = false) ∧
  (∀ (s : State) (k : ResetKind), k ≠ .pin → ∃ t, exec (resetCommand k) s = .next t ∧
    t.clk.runSeconds = 0 ∧ t.clk.day = 0 ∧ t.clk.minute = 0 ∧ t.clk.second = 0 ∧ t.clk.valid = false ∧
    t.heat.cause = .none ∧ t.heat.retryCount = 0 ∧ t.heat.ignitions = [] ∧ t.heat.lastStop = 0) ∧
  (∀ s : State, ∃ t, exec .pinReset s = .next t ∧
    t.clk.runSeconds = s.clk.runSeconds ∧ t.clk.day = s.clk.day ∧ t.clk.minute = s.clk.minute ∧
    t.clk.second = s.clk.second ∧ t.clk.valid = s.clk.valid ∧ t.heat.cause = s.heat.cause ∧
    t.heat.retryCount = s.heat.retryCount ∧ t.heat.ignitions = s.heat.ignitions ∧
    t.heat.lastStop = if s.heat.state = .firing then s.clk.runSeconds else s.heat.lastStop)

/-- The reset cause of resets that overlap and end together, that nothing else changes it, and that the device record shows it (R21). -/
def Obligations.ResetCause : Prop :=
  (∀ (s : State) (kinds : List ResetKind) (w : Straps), s.mem.inReset = none → kinds ≠ [] →
    ∃ t, execAll (kinds.map resetCommand ++ [.resetEnd w]) s = .next t ∧
      t.mem.cause = if .power ∈ kinds then .power else if .supply ∈ kinds then .supply else .pin) ∧
  (∀ (c : Instr) (s t : State), (∀ w, c ≠ .resetEnd w) → exec c s = .next t → t.mem.cause = s.mem.cause) ∧
  ∀ s : State, (liveImage s)[1]? = some (match s.mem.cause with | .power => 1 | .supply => 2 | .pin => (3 : Byte))

/-- At the end of a reset the straps give the memory size and the window base, the load waits with BUSY# asserted, and CLOCK_INVALID
is reported while the valid flag is clear (R1, R17, R51). -/
def Obligations.ResetEndSamplesTheStraps : Prop :=
  ∀ (s : State) (k : ResetKind) (w : Straps), s.mem.inReset = some k → Quiet s →
    ∃ t, exec (.resetEnd w) s = .next t ∧
      t.mem.size = 0x8000 * (if w.msz1 then 4 else 1) * (if w.msz0 then 2 else 1) ∧
      t.mem.base = (if w.wbs1 && w.wbs0 then t.mem.size - 0x2000
        else (if w.wbs1 then 0x4000 else 0) + (if w.wbs0 then 0x2000 else 0)) ∧
      t.mem.base + 0x2000 ≤ t.mem.size ∧ t.mem.busy = true ∧ t.mem.seq = .waiting ∧ t.mem.inReset = none ∧
      t.pins.busy = true ∧
      t.faults = (if s.clk.valid then s.faults else applyArises s.faults .clockInvalid 255) ∧
      sameBesides [.mem, .faults, .pins] s t

/-! ## The memory path -/

/-- WRITE ENABLE and WRITE DISABLE act at the CS_U# rise, and only after exactly 8 clocks, with no byte and no bit after the command byte
(R7). -/
def Obligations.WriteEnableAndDisable : Prop :=
  ∀ (s : State) (u : Tracked) (heard : Byte) (more : List BusByte) (bits : List BusBit),
    s.mem.txn = .tracked u → u.cls = none → Quiet s →
    (∃ t v, exec (.writeEnable more heard) s = .next t ∧ exec (.hostTransactionEnd bits) t = .next v ∧
      t.mem.latch = s.mem.latch ∧ v.mem.latch = (if more = [] ∧ bits = [] then .set else s.mem.latch) ∧
      v.mem.prot = s.mem.prot ∧ v.mem.doubt = s.mem.doubt ∧ v.mem.txn = .idle ∧ sameBesides [.mem, .pins] s v) ∧
    (∃ t v, exec (.writeDisable more heard) s = .next t ∧ exec (.hostTransactionEnd bits) t = .next v ∧
      t.mem.latch = s.mem.latch ∧ v.mem.latch = (if more = [] ∧ bits = [] then .clear else s.mem.latch) ∧
      v.mem.prot = s.mem.prot ∧ v.mem.doubt = s.mem.doubt ∧ v.mem.txn = .idle ∧ sameBesides [.mem, .pins] s v)

/-- WRITE STATUS: the protection mirror takes bits 3:2 of the first data byte where the latch was SET, and the latch mirror is
CLEAR at the rise (R8). -/
def Obligations.WriteStatusSetsProtection : Prop :=
  ∀ (s : State) (u : Tracked) (heard : Byte) (data : List BusByte) (bits : List BusBit),
    s.mem.txn = .tracked u → u.cls = none → Quiet s →
    ∃ t v, exec (.writeStatus data heard) s = .next t ∧ exec (.hostTransactionEnd bits) t = .next v ∧
      t.mem.prot = (match data with
        | b :: _ => if s.mem.latch = .set then .level (Fin.ofNat 4 (b.sdi.toNat / 4)) else s.mem.prot
        | [] => s.mem.prot) ∧
      v.mem.prot = t.mem.prot ∧ t.mem.latch = s.mem.latch ∧ v.mem.latch = .clear ∧ v.mem.txn = .idle ∧
      sameBesides [.mem, .pins] s v

/-- A tracked READ freezes the live image at its third address byte; SDO_U carries the memory's bytes, but for the data at live-area
addresses, which come from the image, and the rise releases it; a READ that ends before freezes none (R2, R3, R14, R15; the record of SDO_U
is the model's own, assumption 16; that the bits of an incomplete data byte are the first of its byte, the most significant first, is
presumed, assumption 49). -/
def Obligations.ReadAnswersFromTheLiveImage : Prop :=
  (∀ (s : State) (u : Tracked) (heard : Byte) (a b c : BusByte) (rest : List BusByte) (bits : List BusBit),
    s.mem.txn = .tracked u → u.cls = none → bits.length < 8 → Quiet s →
    let address (i : Nat) : Nat := (a.sdi.toNat * 65536 + b.sdi.toNat * 256 + c.sdi.toNat + i) % s.mem.size
    let live (i : Nat) : Bool :=
      decide (s.mem.base + 0x1000 ≤ address i) && decide (address i < s.mem.base + 0x1400)
    ∃ t v data last, exec (.read (a :: b :: c :: rest) heard) s = .next t ∧ exec (.hostTransactionEnd bits) t = .next v ∧
      t.mem.image = some (liveImage s) ∧
      t.mem.sdoU = ⟨s.mem.sdoU.bytes ++ [heard, a.sdo, b.sdo, c.sdo] ++ data, s.mem.sdoU.bits⟩ ∧ data.length = rest.length ∧
      (∀ i, i < rest.length → data[i]? =
        if live i = true then (liveImage s)[address i - s.mem.base - 0x1000]? else rest[i]?.map (·.sdo)) ∧
      v.mem.sdoU = ⟨t.mem.sdoU.bytes, s.mem.sdoU.bits ++ last⟩ ∧ last.length = bits.length ∧
      (∀ i, i < bits.length → last[i]? =
        if live rest.length = true
        then (liveImage s)[address rest.length - s.mem.base - 0x1000]?.map fun x => x.getLsbD (7 - i)
        else bits[i]?.map (·.sdo)) ∧
      v.mem.image = none ∧ v.mem.latch = s.mem.latch ∧ v.mem.prot = s.mem.prot ∧ v.mem.doubt = s.mem.doubt ∧
      sameBesides [.mem, .pins] s v) ∧
  ∀ (s : State) (u : Tracked) (heard : Byte) (more : List BusByte), s.mem.txn = .tracked u → u.cls = none → more.length < 3 →
    Quiet s →
    ∃ t, exec (.read more heard) s = .next t ∧ t.mem.image = s.mem.image ∧
      t.mem.sdoU = ⟨s.mem.sdoU.bytes ++ heard :: more.map (·.sdo), s.mem.sdoU.bits⟩ ∧ sameBesides [.mem, .pins] s t

/-- The live image is 1,024 bytes; each record, each override place and each fault place stands at its live offset, an unused place reads
0, and each record holds its fields at the offsets and in the codes of R192's tables, little-endian, with 0 in every other byte. The
outdoor value is stated while a plan is adopted, and the max_energised in use likewise (what they read with none is the model's choice,
assumptions 6 and 17). The model's choice are also 0x8000 as the pipe value while no plan is adopted (assumption 17), and the low 32 bits
as the field of a time that does not wrap (assumption 19), and 0 in byte 0x02 of a zone status whose target source is none
(assumption 51). -/
def Obligations.LiveImageLayout : Prop :=
  ∀ s : State,
    let flag (b : Bool) : Nat := if b then 1 else 0
    let temp (v : Option Int) : Nat := match v with
      | some t => (t % 65536).toNat
      | none => 0x8000
    let age (v : Option Nat) : Nat := match v with
      | some t => min (s.clk.runSeconds - t) 65535
      | none => 65535
    let service (v : Option Service) : Nat := match v with
      | none => 0
      | some .frost => 1
      | some .cylinder => 2
      | some .heating => 3
    let cap (c : CapLevel) : Nat := match c with
      | .cap0 => 0
      | .cap1 => 1
      | .cap2 => 2
    ((liveImage s).length = 1024 ∧
      (liveImage s).take 32 = deviceRecord s ∧ ((liveImage s).drop 0x020).take 32 = heatRecord s ∧
      (∀ n : Fin 12, ((liveImage s).drop (0x040 + 32 * n.val)).take 32 = zoneRecord s n) ∧
      (∀ g : Fin 2, ((liveImage s).drop (0x1C0 + 16 * g.val)).take 16 = groupRecord s g) ∧
      (∀ k : Fin 8, ((liveImage s).drop (0x1E0 + 4 * k.val)).take 4 = inputRecord s k) ∧
      (∀ e : Fin 16, ((liveImage s).drop (0x200 + 16 * e.val)).take 16 = sensorRecord s e) ∧
      (∀ j : Fin 16, ((liveImage s).drop (0x300 + 8 * j.val)).take 8 =
        match s.ovr.entries[j.val]? with
        | some e => overrideRecord e
        | none => List.replicate 8 0) ∧
      (∀ k : Fin 16, ((liveImage s).drop (0x380 + 4 * k.val)).take 4 = resultRecord s.req.results[k]) ∧
      (∀ j : Fin 16, ((liveImage s).drop (0x3C0 + 4 * j.val)).take 4 =
        match s.faults.entries[j.val]? with
        | some e => faultRecord e
        | none => List.replicate 4 0)) ∧
    (let f := recordField (deviceRecord s)
     f 0x00 1 = 1 ∧ f 0x01 1 = (match s.mem.cause with | .power => 1 | .supply => 2 | .pin => 3) ∧
     f 0x02 1 = (if s.plan.active = none then 0 else if s.mem.doubt then 2 else 1) ∧
     (s.plan.active = none → f 0x03 1 = 0) ∧ (∀ p, s.plan.active = some p → f 0x03 1 = p.header.generation.toNat) ∧
     f 0x04 1 = (match s.plan.check with | .idle => 0 | .running => 1 | .stale => 2) ∧
     f 0x05 1 = (match s.plan.lastResult with | .none => 0 | .adopted => 1 | .refused _ => 2) ∧
     f 0x06 1 = (match s.plan.lastResult with | .refused why => refusalNumber why | .none | .adopted => 0) ∧
     [RefusalCode.magic, .version, .code, .priority, .bands, .profile, .zoneSensor, .outputShared, .outputMask,
       .cylinderOutputs, .cylinderCount, .sensorAddress, .noPipe, .flowInput, .outdoor].map refusalNumber = List.range' 1 15 ∧
     f 0x07 1 = flag s.plan.pendingEdits ∧ f 0x08 2 = s.plan.lastOffset % 65536 ∧ f 0x0A 1 = s.plan.clampCount % 256 ∧
     f 0x0B 1 = s.plan.restarts % 256 ∧ f 0x0C 2 = s.plan.firstClamp % 65536 ∧ f 0x0E 1 = s.clk.day % 256 ∧
     f 0x0F 1 = s.clk.second % 256 ∧ f 0x10 2 = s.clk.minute % 65536 ∧ f 0x12 1 = flag s.clk.valid ∧
     f 0x13 1 = (match s.mem.seq with | .idle => 0 | .waiting => 1 | .running => 2) ∧
     f 0x14 4 = s.clk.runSeconds % 4294967296 ∧ f 0x18 2 = s.mem.heldCount % 65536 ∧ f 0x1A 1 = s.req.overrun % 256 ∧
     f 0x1B 1 = s.faults.attention.toNat ∧ f 0x1C 1 = s.req.consumer.toNat ∧ f 0x1D 1 = s.faults.overflow % 256 ∧
     f 0x1E 2 = s.link.noise % 65536) ∧
    (let f := recordField (heatRecord s)
     f 0x00 1 = (match s.heat.state with
       | .off => 0 | .held => 1 | .prerun => 2 | .firing => 3 | .postrun => 4 | .lockout => 5) ∧
     f 0x01 1 = service (served s) ∧ (∀ i : Fin 3, f (0x02 + i.val) 1 = service s.heat.inService[i.val]?) ∧
     f 0x05 1 = (match s.plan.active with
       | none => 0
       | some p => flag s.heat.frostCall + 2 * flag (cylinderCalls p s) + 4 * flag (heatingCalls p s)) ∧
     f 0x06 1 = (match s.heat.hold with
       | .none => 0 | .minOff => 1 | .ignLimit => 2 | .cap2 => 3 | .noPath => 4 | .noPipe => 5) ∧
     f 0x07 1 = (match s.heat.cause with | .none => 0 | .noFlow => 1 | .overheat => 2 | .boiler => 3) ∧
     f 0x08 1 = s.heat.retryCount % 256 ∧ f 0x09 1 = cap s.heat.cap ∧ f 0x0A 1 = cap (effectiveCap s) ∧
     f 0x0B 1 = s.heat.duty % 256 ∧ f 0x0C 2 = temp (some s.heat.flowTarget) ∧
     (s.plan.active = none → f 0x0E 2 = 0x8000) ∧
     (∀ p, s.plan.active = some p → f 0x0E 2 = temp (pipeHeld p s) ∧ f 0x10 2 = temp (some (outdoorInUse p s))) ∧
     f 0x12 2 = s.inp.period % 65536 ∧
     f 0x14 1 = flag s.inp.flow.late +
       2 * flag ((s.plan.active.bind flowInput).isNone || s.inp.flow.established) + 4 * flag s.inp.flow.noFlow ∧
     f 0x15 1 = s.heat.ignitions.length % 256 ∧ f 0x16 2 = age s.heat.ignitions.head? ∧ f 0x18 2 = s.heat.cylTimer % 65536 ∧
     f 0x1A 2 = (match s.heat.cylBlock with | some t => (t - s.clk.runSeconds) % 65536 | none => 0) ∧
     ∀ o, 0x1C ≤ o → f o 1 = 0) ∧
    (∀ n : Fin 12,
      let f := recordField (zoneRecord s n)
      f 0x00 1 = (match s.reg[n].mode with | .disabled => 0 | .running => 1 | .window => 2 | .fallback => 3) ∧
      (f 0x01 1, f 0x02 1) = (match winner s.ovr n, s.clk.level[n] with
        | some e, _ => (2, e.id % 256)
        | none, some l => (1, match l with | .frost => 0 | .eco => 1 | .comfort => 2 | .comfortPlus => 3)
        | none, none => (0, 0)) ∧
      (∀ k, k < 8 → ((f 0x03 1).testBit k = true ↔
        ∃ e ∈ s.ovr.entries, e.mask.getLsbD n.val = true ∧ e.priority = k)) ∧
      f 0x04 2 = temp (some s.clk.target[n]) ∧ f 0x06 2 = temp s.reg[n].measured ∧ f 0x08 1 = s.reg[n].demand % 256 ∧
      f 0x09 1 = s.reg[n].onTime % 256 ∧ f 0x0A 2 = s.reg[n].integral % 65536 ∧
      f 0x0C 1 = (match s.drv[n].valve with | .closed => 0 | .opening => 1 | .open => 2 | .closing => 3) ∧
      f 0x0D 1 = (match s.drv[n].request with | .idle => 0 | .waiting => 1 | .energised => 2) ∧
      f 0x0E 1 = flag s.reg[n].starved ∧ f 0x0F 1 = s.inp.windowEvents[n] % 256 ∧
      f 0x10 4 = (match s.drv[n].lastGrant with | some t => t % 4294967296 | none => 0xFFFFFFFF) ∧
      ∀ o, 0x14 ≤ o → f o 1 = 0) ∧
    (∀ g : Fin 2,
      let f := recordField (groupRecord s g)
      (∀ p, s.plan.active = some p →
        f 0x00 1 = energisedCount p s g % 256 ∧ f 0x01 1 = p.groups[g].maxEnergised % 256) ∧
      f 0x02 1 = flag s.inp.supplyLow[g] ∧ f 0x03 1 = s.grp[g].inrush.length % 256 ∧ f 0x04 2 = age s.grp[g].inrush.head? ∧
      f 0x06 1 = s.grp[g].waitList.length % 256 ∧
      (∀ i, i < 8 → f (0x07 + i) 1 = (match s.grp[g].waitList[i]? with | some z => z.val | none => 0)) ∧ f 0x0F 1 = 0) ∧
    (∀ k : Fin 8,
      let f := recordField (inputRecord s k)
      f 0x00 1 = flag s.inp.pins[k].debounced + 2 * flag s.inp.pins[k].active ∧
      f 0x01 1 = (match s.plan.active with
        | some p => if flowInput p = some k then s.inp.pulses % 256 else 0
        | none => 0) ∧
      f 0x02 2 = s.inp.pins[k].edges.toNat) ∧
    (∀ e : Fin 16,
      let f := recordField (sensorRecord s e)
      let x := s.link.entries[e]
      f 0x00 1 = (match x.state with | .off => 0 | .searching => 1 | .online => 2 | .stale => 3 | .lost => 4) ∧
      f 0x01 1 = x.misses % 256 ∧ f 0x02 2 = temp x.held ∧ f 0x04 2 = age x.readTime ∧
      f 0x06 1 = (match s.plan.active with
        | some p => if p.header.pipeIndex = e.val then x.lastBand % 256 else 0
        | none => 0) ∧
      f 0x07 1 = flag x.faultFlag + 2 * flag x.supplyFlag ∧ f 0x08 2 = x.successes % 65536 ∧
      f 0x0A 2 = x.failures % 65536 ∧ ∀ o, 0x0C ≤ o → f o 1 = 0) ∧
    (∀ x : OverrideEntry,
      let f := recordField (overrideRecord x)
      f 0x00 1 = x.id % 256 ∧ f 0x01 1 = x.priority % 256 ∧ f 0x02 2 = x.mask.toNat ∧
      (f 0x04 1, f 0x05 1) = (match x.value with
        | .level l => (1, match l with | .frost => 0 | .eco => 1 | .comfort => 2 | .comfortPlus => 3)
        | .setpoint half => (2, half % 256)) ∧
      f 0x06 2 = x.remaining % 65536) ∧
    (∀ x : ResultEntry,
      let f := recordField (resultRecord x)
      f 0x00 1 = x.tag.toNat ∧
      f 0x01 1 = (match x.status with
        | .none => 0 | .done => 1 | .badKind => 2 | .badParam => 3 | .full => 4 | .notFound => 5 | .tooHot => 6 | .noPlan => 7) ∧
      f 0x02 1 = x.detail % 256 ∧ f 0x03 1 = x.seq.toNat) ∧
    (∀ x : FaultEntry,
      let f := recordField (faultRecord x)
      f 0x00 1 = faultNumber x.code ∧ f 0x01 1 = x.subject % 256 ∧ f 0x02 1 = x.count % 256 ∧
      f 0x03 1 = (match x.code with
        | .sensorLost | .sensorType => 2
        | .zoneFallback => 1
        | .supplyLow => 3
        | _ => 0)) ∧
    [FaultCode.sensorLost, .sensorType, .zoneFallback, .linkContention, .noFlow, .overheat, .boilerFault, .cylTimeout,
      .planRefused, .mirrorDoubt, .ringOverrun, .supplyLow, .clockInvalid, .noPlan].map faultNumber = List.range' 1 14

/-- A fall of CS_U# begins an untracked transaction during a reset, a held one while BUSY# is asserted, and else a tracked one. In a held
transaction SDO_U is at ones throughout, whatever BUSY# does, so every byte of every bus command and every bit at the end reads ones,
CS_M# stays with the controller, and nothing else changes but the held count. A tracked and an untracked transaction are forwarded: CS_M#
is low from the fall of CS_U# to its rise, every byte and bit of the host reaches the memory, and SDO_U carries every byte and bit of the
memory, but for the data of a tracked READ; an untracked one changes nothing else. The rise of CS_U# ends each (R3, R5, R16); the records
of SDO_U and of the memory side are the model's own (assumptions 16 and 48). -/
def Obligations.HeldAndForwardedTransactions : Prop :=
  (∀ s : State, s.mem.txn = .idle → Quiet s →
    ∃ t, exec .hostTransactionBegin s = .next t ∧
      (s.mem.inReset ≠ none →
        t.mem = { s.mem with txn := .untracked, sdoU := ⟨[], []⟩, wire := ⟨[], []⟩ } ∧ t.pins.csM = true) ∧
      (s.mem.inReset = none → s.mem.busy = true →
        t.mem = { s.mem with txn := .held, sdoU := ⟨[], []⟩, heldCount := min (s.mem.heldCount + 1) (max 65535 s.mem.heldCount) } ∧
        t.pins.sdoOnes = true ∧ (t.pins.csM = true ↔ s.mem.seq = .running)) ∧
      (s.mem.inReset = none → s.mem.busy = false →
        t.mem = { s.mem with txn := .tracked { cls := none, clocks := 0, latchWasSet := false, addr := none, pos := 0 },
                             sdoU := ⟨[], []⟩, wire := ⟨[], []⟩ } ∧ t.pins.csM = true) ∧
      sameBesides [.mem, .pins] s t) ∧
  (∀ (s : State) (c : Instr), isBusCommand c = true → c.wellFormed = true → Quiet s →
    let wire : LineRecord := ⟨s.mem.wire.bytes ++ sentBytes c, s.mem.wire.bits⟩
    let out : LineRecord := ⟨s.mem.sdoU.bytes ++ heardBytes c, s.mem.sdoU.bits⟩
    (s.mem.txn = .held → ∃ t, exec c s = .next t ∧ t.pins.sdoOnes = true ∧ (t.pins.csM = true ↔ s.mem.seq = .running) ∧
      t.mem = { s.mem with
        sdoU := ⟨s.mem.sdoU.bytes ++ List.replicate (carried c).length 0xFF, s.mem.sdoU.bits⟩ } ∧ sameBesides [.mem, .pins] s t) ∧
    (s.mem.txn = .untracked → ∃ t, exec c s = .next t ∧ t.pins.sdoOnes = false ∧ t.pins.csM = true ∧
      t.mem = { s.mem with sdoU := out, wire := wire } ∧ sameBesides [.mem, .pins] s t) ∧
    (∀ u, s.mem.txn = .tracked u → comesNext u c = true → ∃ t, exec c s = .next t ∧ t.pins.sdoOnes = false ∧
      t.pins.csM = true ∧ t.mem.wire = wire ∧ t.mem.sdoU.clocks = out.clocks ∧
      ((∀ more heard, c = .read more heard → more.length < 3) → t.mem.sdoU = out))) ∧
  (∀ (s : State) (bits : List BusBit), Quiet s → s.mem.txn ≠ .idle →
    ∃ t out, exec (.hostTransactionEnd bits) s = .next t ∧ t.pins.sdoOnes = false ∧
      (t.pins.csM = true ↔ s.mem.seq = .running) ∧ sameBesides [.mem, .pins] s t ∧
      (s.mem.txn = .held ∨ s.mem.txn = .untracked → t.mem.latch = s.mem.latch) ∧
      t.mem = { s.mem with
        latch := t.mem.latch, txn := .idle, image := none, sdoU := ⟨s.mem.sdoU.bytes, s.mem.sdoU.bits ++ out⟩,
        wire := if s.mem.txn = .held then s.mem.wire else ⟨s.mem.wire.bytes, s.mem.wire.bits ++ bits.map (·.sdi)⟩ } ∧
      out.length = bits.length ∧ (s.mem.txn = .held → out = List.replicate bits.length true) ∧
      (s.mem.txn = .untracked ∨ (s.mem.txn ≠ .held ∧ s.mem.image = none) → out = bits.map (·.sdo)))

/-- A data byte of a WRITE lands where the write's latch was SET and its address is unprotected, and then changes exactly the shadow byte
at its window offset below 0x0D00; a WRITE that ends before its third address byte lands nothing; and at the rise of CS_U# the latch
mirror is CLEAR, whatever landed and however many bytes the WRITE held (R2, R6, R9, R10); that nothing lands while the protection mirror
is UNKNOWN, and that an UNKNOWN latch mirror counts as not SET, is inferred from these rules (model's choice, assumption 18); the records
of SDO_U and of the memory side are the model's own (assumptions 16 and 48). -/
def Obligations.WriteLandsItsBytes : Prop :=
  (∀ (s : State) (u : Tracked) (heard : Byte) (a b c : BusByte), s.mem.txn = .tracked u → u.cls = none → Quiet s →
    ∃ t, exec (.write [a, b, c] heard) s = .next t ∧
      t.mem = { s.mem with
        txn := .tracked { u with
          cls := some .write, clocks := 32, latchWasSet := decide (s.mem.latch = .set),
          addr := some (a.sdi.toNat * 65536 + b.sdi.toNat * 256 + c.sdi.toNat) },
        sdoU := ⟨s.mem.sdoU.bytes ++ [heard, a.sdo, b.sdo, c.sdo], s.mem.sdoU.bits⟩,
        wire := ⟨s.mem.wire.bytes ++ [0x02, a.sdi, b.sdi, c.sdi], s.mem.wire.bits⟩ } ∧
      sameBesides [.mem, .pins] s t) ∧
  (∀ (s : State) (u : Tracked) (A : Nat) (v heard : Byte), s.mem.txn = .tracked u → u.cls = some .write → u.addr = some A →
    Shadow.wf s.plan.shadow = true →
    ∃ t, exec (.landedByte ⟨v, heard⟩) s = .next t ∧
      t.mem = { s.mem with
        txn := .tracked { u with pos := u.pos + 1, clocks := u.clocks + 8 },
        sdoU := ⟨s.mem.sdoU.bytes ++ [heard], s.mem.sdoU.bits⟩,
        wire := ⟨s.mem.wire.bytes ++ [v], s.mem.wire.bits⟩ } ∧
      let address := (A + u.pos) % s.mem.size
      let free := match s.mem.prot with
        | .level 0 => True
        | .level 1 => address < 3 * s.mem.size / 4
        | .level 2 => address < s.mem.size / 2
        | .level _ => False
        | .unknown => False
      let lands := u.latchWasSet = true ∧ free ∧ s.mem.base ≤ address ∧ address < s.mem.base + 0x0D00
      (lands → ∀ o, Shadow.read t.plan.shadow o = if o = address - s.mem.base then v else Shadow.read s.plan.shadow o) ∧
      (¬lands → t.plan = s.plan ∧ t.req = s.req ∧ t.faults = takeNews s.faults) ∧
      sameBesides [.mem, .plan, .req, .faults, .pins] s t) ∧
  (∀ (s : State) (u : Tracked) (bits : List BusBit), s.mem.txn = .tracked u → u.cls = some .write → Quiet s →
    ∃ t, exec (.hostTransactionEnd bits) s = .next t ∧ t.mem.latch = .clear ∧ t.mem.prot = s.mem.prot ∧
      t.mem.doubt = s.mem.doubt ∧ t.mem.txn = .idle ∧ sameBesides [.mem, .pins] s t) ∧
  (∀ (s : State) (u : Tracked) (heard : Byte) (addr : List BusByte) (bits : List BusBit), s.mem.txn = .tracked u →
    u.cls = none → addr.length < 3 → Quiet s →
    ∃ t v, exec (.write addr heard) s = .next t ∧ exec (.hostTransactionEnd bits) t = .next v ∧ t.mem.latch = s.mem.latch ∧
      v.mem.latch = .clear ∧ v.mem.prot = s.mem.prot ∧ v.mem.doubt = s.mem.doubt ∧ v.mem.txn = .idle ∧
      sameBesides [.mem, .pins] s v)

/-- The triggers of a landed byte, by its window offset (R11, R18, R29, R30, R62, R63, R187). -/
def Obligations.LandedByteTriggers : Prop :=
  ∀ (s : State) (u : Tracked) (A o : Nat) (v heard : Byte),
    s.mem.txn = .tracked u → u.cls = some .write → u.addr = some A → u.latchWasSet = true → s.mem.prot = .level 0 →
    windowOffset s.mem ((A + u.pos) % s.mem.size) = some o → Quiet s →
    ∃ t, exec (.landedByte ⟨v, heard⟩) s = .next t ∧
      (o < 0x0B00 → s.mem.seq ≠ .idle → t.plan.check = s.plan.check ∧ t.plan.pendingEdits = s.plan.pendingEdits) ∧
      (o = 0x0003 → s.mem.seq = .idle →
        (s.plan.check = .idle → t.plan.check = .running ∧ t.plan.pendingEdits = false) ∧
        (s.plan.check ≠ .idle → t.plan.check = .stale ∧ t.plan.pendingEdits = s.plan.pendingEdits)) ∧
      (o < 0x0B00 → o ≠ 0x0003 → s.mem.seq = .idle → t.plan.pendingEdits = true ∧
        t.plan.check = if s.plan.check = .idle then .idle else .stale) ∧
      (0x0B00 ≤ o → t.plan.check = s.plan.check ∧ t.plan.pendingEdits = s.plan.pendingEdits) ∧
      (o = 0x0C00 → s.req.synced = true →
        let d := (v - s.req.consumer).toNat
        (d ≤ 16 → (s.req.inFlight = none ∨ 1 ≤ d) →
          t.req = { s.req with producer := v } ∧ t.faults = applyEnds s.faults .ringOverrun 255) ∧
        ((16 < d ∨ (d = 0 ∧ s.req.inFlight ≠ none)) →
          t.req = { s.req with overrun := satInc 255 s.req.overrun } ∧
          t.faults = applyArises s.faults .ringOverrun 255)) ∧
      (o = 0x0C00 → s.req.synced = false → t.req = s.req ∧ t.faults = s.faults) ∧
      (o = 0x0C01 → t.faults = { s.faults with ack := v } ∧
        (s.mem.inReset = none → t.pins.attn = (s.faults.attention != v))) ∧
      (o ≠ 0x0C00 → t.req = s.req) ∧ (o ≠ 0x0C00 → o ≠ 0x0C01 → t.faults = s.faults)

/-- The command byte picks the command: 06h WRITE ENABLE, 04h WRITE DISABLE, 05h READ STATUS, 01h WRITE STATUS, 03h READ, 02h WRITE, and
every other code an unrecognised one. READ STATUS and unrecognised commands are forwarded and leave both mirrors; an unrecognised one with
the latch mirror SET sets the mirror-doubt flag and reports MIRROR_DOUBT (R4, R12, R189; that a command carries its following bytes, and the
records of both lines, are the model's own, assumptions 2, 16 and 48). -/
def Obligations.ForwardedCommands : Prop :=
  (∀ (heard : Byte) (more : List BusByte),
    commandOf ⟨0x06, heard⟩ more = .writeEnable more heard ∧ commandOf ⟨0x04, heard⟩ more = .writeDisable more heard ∧
    commandOf ⟨0x05, heard⟩ more = .readStatus more heard ∧ commandOf ⟨0x01, heard⟩ more = .writeStatus more heard ∧
    commandOf ⟨0x03, heard⟩ more = .read more heard ∧ commandOf ⟨0x02, heard⟩ more = .write (more.take 3) heard ∧
    ∀ code : Byte, code ∉ ([0x06, 0x04, 0x05, 0x01, 0x03, 0x02] : List Byte) →
      commandOf ⟨code, heard⟩ more = .unrecognisedCommand ⟨code, heard⟩ more) ∧
  ∀ (s : State) (u : Tracked) (heard : Byte) (more : List BusByte), s.mem.txn = .tracked u → u.cls = none → Quiet s →
    let out : LineRecord := ⟨s.mem.sdoU.bytes ++ heard :: more.map (·.sdo), s.mem.sdoU.bits⟩
    let wire (code : Byte) : LineRecord := ⟨s.mem.wire.bytes ++ code :: more.map (·.sdi), s.mem.wire.bits⟩
    (∃ t, exec (.readStatus more heard) s = .next t ∧ t.mem.sdoU = out ∧ t.mem.wire = wire 0x05 ∧ t.mem.latch = s.mem.latch ∧
      t.mem.prot = s.mem.prot ∧ t.mem.doubt = s.mem.doubt ∧ sameBesides [.mem, .pins] s t) ∧
    (∀ code : Byte, (Instr.unrecognisedCommand ⟨code, heard⟩ more).wellFormed = true →
      ∃ t, exec (.unrecognisedCommand ⟨code, heard⟩ more) s = .next t ∧ t.mem.sdoU = out ∧ t.mem.wire = wire code ∧
        t.mem.latch = s.mem.latch ∧ t.mem.prot = s.mem.prot ∧ t.mem.doubt = (s.mem.doubt || s.mem.latch == .set) ∧
        t.faults = (if s.mem.latch = .set then applyArises s.faults .mirrorDoubt 255 else s.faults) ∧
        sameBesides [.mem, .faults, .pins] s t)

/-- Steps 3 to 5 of a load or reload: with CS_M# low the controller issues WRITE DISABLE in 8 clocks, READ STATUS, and one READ at the
window base of 3,328 bytes (their record is the model's own, assumption 48); the latch mirror is CLEAR, the protection mirror takes bits
3:2 of the status byte, and the shadow is the memory's 3,328 bytes (R17, R189), in its canonical form (model's choice, assumption 9). -/
def Obligations.SequenceReadsTheShadow : Prop :=
  ∀ (s : State) (status : Byte) (contents : List Byte),
    s.mem.seq = .waiting → s.mem.txn = .idle → contents.length = 3328 → Quiet s →
    ∃ t, exec (.sequenceBusFree status contents) s = .next t ∧
      t.mem = { s.mem with
        seq := .running, latch := .clear, prot := .level (Fin.ofNat 4 (status.toNat / 4)), own := t.mem.own } ∧
      t.pins.csM = true ∧
      (∃ a b c : Byte, t.mem.own = [⟨[0x04], 8⟩, ⟨[0x05], 16⟩, ⟨[0x03, a, b, c], 8 * (4 + 3328)⟩] ∧
        (s.mem.base < 16777216 → a.toNat * 65536 + b.toNat * 256 + c.toNat = s.mem.base)) ∧
      (∀ o, o < 3328 → contents[o]? = some (Shadow.read t.plan.shadow o)) ∧ Shadow.wf t.plan.shadow = true ∧
      t.plan = { s.plan with shadow := t.plan.shadow } ∧ sameBesides [.mem, .plan, .pins] s t

/-- Step 6: CS_M# and BUSY# are released and a plan check starts; a load synchronises the request unit and resumes a retained lockout,
with its fault reported and PUMP and DIV off, and a reload clears the mirror-doubt flag (R13, R17, R29, R67, R181). -/
def Obligations.SequenceEndStartsACheck : Prop :=
  ∀ s : State, s.mem.seq = .running → Quiet s →
    ∃ t, exec .sequenceEnd s = .next t ∧
      t.mem = { s.mem with busy := false, seq := .idle, reload := false, doubt := s.mem.doubt && !s.mem.reload } ∧
      t.pins.busy = false ∧ (s.mem.txn = .idle ∨ s.mem.txn = .held → t.pins.csM = false) ∧
      t.plan = { s.plan with check := .running, pendingEdits := false } ∧
      (s.mem.reload = false →
        t.req = { s.req with
          synced := true, producer := Shadow.read s.plan.shadow 0x0C00, consumer := Shadow.read s.plan.shadow 0x0C00 } ∧
        (s.heat.cause = .none → t.heat = s.heat ∧ t.faults = s.faults) ∧
        (s.heat.cause ≠ .none →
          t.heat = { s.heat with
            state := .lockout, pumpRunExpiry := none, div := false
            lastStop := if s.heat.state = .firing then s.clk.runSeconds else s.heat.lastStop
            retryExpiry :=
              if s.heat.cause = .noFlow ∧ s.heat.retryCount < 3 then some (s.clk.runSeconds + 900) else none } ∧
          t.pins.burn = false ∧ t.pins.pump = false ∧ t.pins.div = false ∧
          ∀ fault, (s.heat.cause, fault) ∈ [(LockoutCause.noFlow, FaultCode.noFlow), (.overheat, .overheat),
            (.boiler, .boilerFault)] → t.faults = applyArises s.faults fault 255)) ∧
      (s.mem.reload = true →
        t.req = s.req ∧ t.heat = s.heat ∧ t.faults = applyEnds s.faults .mirrorDoubt 255) ∧
      sameBesides [.mem, .plan, .req, .heat, .faults, .pins] s t

/-! ## The plan store -/

/-- The violation that a check reports is one that holds, and has the lowest offset, and among those the lowest code (R33). -/
def Obligations.ReportedViolationIsLowest : Prop :=
  ∀ p : Plan,
    (reportedViolation p = none ↔ violations p = []) ∧
    ∀ v, reportedViolation p = some v → v ∈ violations p ∧
      ∀ w ∈ violations p, v.offset < w.offset ∨ (v.offset = w.offset ∧ refusalNumber v.code ≤ refusalNumber w.code)

/-- A fresh completion with a violation refuses the plan: the plan in force stays, the result and offset are recorded, and PLAN_REFUSED
and NO_PLAN are reported as the plan status and the code say. A stale check is discarded at its completion and starts again (R30, R33). -/
def Obligations.RefusedAndStaleChecksKeepThePlan : Prop :=
  (∀ s : State, s.plan.check = .stale → Quiet s →
    ∃ t, exec .planCheckCompletion s = .next t ∧
      t.plan = { s.plan with check := .running, pendingEdits := false, restarts := satInc 255 s.plan.restarts } ∧
      sameBesides [.plan, .pins] s t) ∧
  ∀ (s : State) (v : Violation),
    s.plan.check = .running → reportedViolation (workingPlan (storedPlan s.plan.shadow)) = some v →
    s.req.inFlight = none → Quiet s →
    ∃ t, exec .planCheckCompletion s = .next t ∧
      RefusalTaken v 1 s t ∧ sameBesides [.plan, .faults, .pins] s t

/-- A fresh completion without a violation adopts the working values of the shadow as a whole. The override list is pruned to the zones
now enabled, levels and targets are evaluated with the new plan, the attention number rises by 1, PLAN_REFUSED and NO_PLAN leave the fault
list, and with them it takes, as one event, what the reconciled blocks hand it; with a RELOAD in flight the attention number rises once
more, as ReloadCompletesWithItsCheck states (R34, R39, R45, R54, R55, R58, R59, R185). -/
def Obligations.AdoptionTakesTheCheckedPlan : Prop :=
  ∀ s : State,
    s.plan.check = .running → reportedViolation (workingPlan (storedPlan s.plan.shadow)) = none →
    ∃ t, exec .planCheckCompletion s = .next t ∧
      (s.req.inFlight = none → AdoptionTaken 1 s t ∧ t.req = s.req) ∧
      t.plan.active = some (workingPlan (storedPlan s.plan.shadow)) ∧ planStatus t = (if s.mem.doubt then .activeDoubt else .active) ∧
      activeGeneration t = Shadow.read s.plan.shadow 3 ∧
      t.ovr.lastId = s.ovr.lastId ∧
      t.ovr.entries = ((s.ovr.entries.map fun e =>
        { e with mask := e.mask &&& enabledMask (workingPlan (storedPlan s.plan.shadow)) }).filter fun e => e.mask ≠ 0) ∧
      (let p := workingPlan (storedPlan s.plan.shadow)
       (∀ z : Fin 12, t.clk.level[z] = if p.zones[z].enabled then
          some (if s.clk.valid then scheduleLevel p p.zones[z] s.clk.day s.clk.minute else .eco) else none) ∧
       (∀ z : Fin 12, t.clk.target[z] = targetOf p t.ovr t.clk.level[z] z) ∧
       (∀ z : Fin 12, p.zones[z].enabled = false → t.clk.target[z] = 0)) ∧
      t.clk = { s.clk with level := t.clk.level, target := t.clk.target } ∧
      t.mem = s.mem

/-- The zones and supply groups at an adoption: an unchanged zone keeps all of it, a disabled zone is DISABLED and off, a started zone is
regulated afresh and off, and a kept zone keeps its integral, starved flag and requested end, and follows its window state and sensor,
where an opened window comes before the sensor (model's choice, assumption 50). Group limiting de-energises energised zones, the
numerically highest priority first, then the latest grant, then the highest number, while the group's count exceeds its new max_energised;
a zone so limited waits, unless its request has ended or the try after the adoption grants it again; and after the tries each head, if
any, has neither ended nor may be granted (R35 to R38, R41, R42, R144, R145, R149). -/
def Obligations.AdoptionReconcilesZonesAndGroups : Prop :=
  ∀ s : State,
    s.plan.check = .running → reportedViolation (workingPlan (storedPlan s.plan.shadow)) = none →
    ∃ t, exec .planCheckCompletion s = .next t ∧
      let p := workingPlan (storedPlan s.plan.shadow)
      let stays (z : Fin 12) : Bool := decide (zoneClass s.plan.active p z = .kept) && isRoom p z &&
        decide (s.drv[z].request = .energised) && (s.inp.windowOpen[z] || !t.inp.windowOpen[z])
      let upTo (z : Fin 12) : Nat := ((allZones.filter fun y =>
        stays y && decide (zoneGroup p y = zoneGroup p z) && (decide (y = z) || standsBefore p s y z)).map fun y =>
          outputCount p.zones[y].mask).sum
      (∀ g : Fin 2, HeadWaits p t g) ∧
      (∀ z : Fin 12, stays z = true →
        (upTo z ≤ p.groups[zoneGroup p z].maxEnergised → t.drv[z] = s.drv[z]) ∧
        (p.groups[zoneGroup p z].maxEnergised < upTo z → t.drv[z].energisedTime = energisedSoFar s z ∧
          (t.drv[z].request = .idle → requestEnded s z = true) ∧
          (t.drv[z].request = .energised → t.drv[z].lastGrant = some s.clk.runSeconds) ∧
          (t.drv[z].request ≠ .energised → t.drv[z].lastGrant = s.drv[z].lastGrant ∧ t.drv[z].valve ≠ .open ∧
            t.drv[z].valve ≠ .opening))) ∧
      (∀ z : Fin 12, zoneClass s.plan.active p z = .unchanged →
        t.reg[z] = s.reg[z] ∧ t.drv[z] = s.drv[z] ∧ t.inp.windowEvents[z] = s.inp.windowEvents[z]) ∧
      (∀ z : Fin 12, zoneClass s.plan.active p z = .disabled →
        t.reg[z].mode = .disabled ∧ t.reg[z].integral = 0 ∧ t.reg[z].demand = 0 ∧ t.reg[z].onTime = 0 ∧
        t.reg[z].call = false ∧ t.reg[z].starved = false ∧ t.drv[z].request = .idle ∧
        t.drv[z].lastGrant = s.drv[z].lastGrant ∧ t.inp.windowEvents[z] = s.inp.windowEvents[z]) ∧
      (∀ z : Fin 12, zoneClass s.plan.active p z = .started →
        t.reg[z].mode = (if t.inp.windowOpen[z] then .window
          else if sensorBad t p.zones[z].sensor then .fallback else .running) ∧
        t.reg[z].integral = 0 ∧ t.reg[z].demand = 0 ∧ t.reg[z].onTime = 0 ∧ t.reg[z].call = false ∧
        t.reg[z].starved = false ∧ t.drv[z].request = .idle ∧ t.drv[z].valve = .closed ∧ t.drv[z].lastGrant = none) ∧
      (∀ z : Fin 12, zoneClass s.plan.active p z = .kept →
        t.reg[z].integral = s.reg[z].integral ∧ t.reg[z].starved = s.reg[z].starved ∧
        t.drv[z].reqEnd = s.drv[z].reqEnd ∧ t.drv[z].cycleStart = s.drv[z].cycleStart ∧
        (t.inp.windowOpen[z] = s.inp.windowOpen[z] →
          t.reg[z].mode = (match s.reg[z].mode, sensorBad t p.zones[z].sensor with
            | .running, true => .fallback
            | .fallback, false => .running
            | m, _ => m) ∧
          t.reg[z].demand = s.reg[z].demand ∧ t.reg[z].onTime = s.reg[z].onTime ∧
          t.inp.windowEvents[z] = s.inp.windowEvents[z] ∧ (isRoom p z = true → t.reg[z].call = s.reg[z].call) ∧
          (s.drv[z].request = .idle → t.drv[z] = s.drv[z])) ∧
        (s.inp.windowOpen[z] = false → t.inp.windowOpen[z] = true →
          t.reg[z].mode = .window ∧ t.reg[z].demand = 0 ∧ t.reg[z].onTime = 0 ∧ t.reg[z].call = false ∧
          t.drv[z].request = .idle ∧ t.inp.windowEvents[z] = satInc 255 s.inp.windowEvents[z]) ∧
        (s.inp.windowOpen[z] = true → t.inp.windowOpen[z] = false →
          t.reg[z].mode = (if sensorBad t p.zones[z].sensor then .fallback else .running) ∧ t.reg[z].demand = 0 ∧
          t.reg[z].onTime = 0 ∧ t.inp.windowEvents[z] = s.inp.windowEvents[z] ∧
          (isRoom p z = true → t.reg[z].call = s.reg[z].call)))

/-- The sensor link and the inputs at an adoption. An entry that is not retained becomes SEARCHING or OFF without value, counts or type
fault, its faults leave, and a transaction in flight to it is dropped; a retained one stays. The pipe last attempt is none after an index
change, the LIMITS mark is set, kept or cleared by R100, an INACTIVE link becomes IDLE, and the link then chooses, as adoptions are choice
events. Each input keeps its levels and edge count, its active flag is judged again, and its pending change is dropped where its debounce
starts again; which changes of an entry keep it is in part the model's choice (assumption 43). The window states and the boiler
fault and supply-low conditions are judged again, and SUPPLY_LOW joins and leaves with its condition
(R40, R41, R86, R97, R100, R101, R104, R107, R109, R111, R112). -/
def Obligations.AdoptionReconcilesLinkAndInputs : Prop :=
  ∀ s : State,
    s.plan.check = .running → reportedViolation (workingPlan (storedPlan s.plan.shadow)) = none →
    ∃ t l, exec .planCheckCompletion s = .next t ∧
      let p := workingPlan (storedPlan s.plan.shadow)
      let old := s.plan.active
      let retained (e : Fin 16) : Prop := entryClass old p e = .retained
      let marks : Prop := ∃ e, pipeUnit p = some e ∧
        (old.map (·.header.pipeIndex) ≠ some p.header.pipeIndex ∨ ¬retained e ∨
          old.map (·.header.bandLow) ≠ some p.header.bandLow ∨ old.map (·.header.bandMid) ≠ some p.header.bandMid)
      let restarts (k : Fin 8) : Prop := ∀ q, old = some q →
        q.inputs[k].role ≠ p.inputs[k].role ∨ q.inputs[k].active ≠ p.inputs[k].active ∨
          q.inputs[k].debounce ≠ p.inputs[k].debounce ∨ (flowInput p = some k ∧ q.inputs[k].edge ≠ p.inputs[k].edge)
      LinkChooses p s.inp.time l t.link ∧
      l = { s.link with
        state := if s.link.state = .inactive then .idle else s.link.state
        pipeLast := if old.map (·.header.pipeIndex) = some p.header.pipeIndex then s.link.pipeLast else none
        limitsMark := l.limitsMark, txn := l.txn, entries := l.entries } ∧
      (l.limitsMark = true ↔ marks ∨ (s.link.limitsMark = true ∧ pipeUnit p ≠ none)) ∧
      (∀ e : Fin 16, (retained e → l.entries[e] = s.link.entries[e]) ∧
        (¬retained e → l.entries[e] = { s.link.entries[e] with
          state := if p.sensors[e].enabled then .searching else .off, misses := 0, held := none, readTime := none
          typeFault := false, reportCounter := 0, successes := 0, failures := 0 })) ∧
      (s.link.txn = none → l.txn = none) ∧
      (∀ x, s.link.txn = some x → ∃ y, l.txn = some y ∧
        y = { x with dropped := y.dropped, markedSince := y.markedSince } ∧
        (y.dropped = true ↔ x.dropped = true ∨ ¬retained x.entry) ∧ (y.markedSince = true ↔ x.markedSince = true ∨ marks)) ∧
      (∀ k : Fin 8, t.inp.pins[k] = { s.inp.pins[k] with active := t.inp.pins[k].active, pending := t.inp.pins[k].pending } ∧
        (t.inp.pins[k].active = true ↔ p.inputs[k].role ≠ .none ∧
          ((p.inputs[k].active = .high ∧ s.inp.pins[k].debounced = true) ∨
            (p.inputs[k].active = .low ∧ s.inp.pins[k].debounced = false))) ∧
        (restarts k → t.inp.pins[k].pending = none) ∧
        (¬restarts k → t.inp.pins[k].pending = s.inp.pins[k].pending)) ∧
      (∀ z : Fin 12, t.inp.windowOpen[z] = true ↔ p.zones[z].enabled = true ∧
        ∃ k : Fin 8, p.zones[z].windowMask.getLsbD k.val = true ∧ p.inputs[k].role = .window ∧ t.inp.pins[k].active = true) ∧
      (t.inp.boilerFault = true ↔ ∃ k : Fin 8, p.inputs[k].role = .boilerFault ∧ t.inp.pins[k].active = true) ∧
      (∀ g : Fin 2, t.inp.supplyLow[g] = true ↔
        ∃ k : Fin 8, p.inputs[k].role = .supplyLow ∧ p.inputs[k].group = g.val ∧ t.inp.pins[k].active = true) ∧
      t.inp.time = s.inp.time ∧
      (Quiet s → ∃ news,
        t.faults = takeNews { s.faults with
          attention := s.faults.attention + (if s.req.inFlight = none then 1 else 2), handed := news } ∧
        (∀ e : Fin 16, (.ends .sensorLost e.val ∈ news ↔ ¬retained e) ∧ (.ends .sensorType e.val ∈ news ↔ ¬retained e) ∧
          .arises .sensorLost e.val ∉ news ∧ .arises .sensorType e.val ∉ news) ∧
        ∀ g : Fin 2,
          (.arises .supplyLow g.val ∈ news ↔ s.inp.supplyLow[g] = false ∧ t.inp.supplyLow[g] = true) ∧
          (.ends .supplyLow g.val ∈ news ↔ s.inp.supplyLow[g] = true ∧ t.inp.supplyLow[g] = false))

/-- What an adoption keeps and changes of the heat source and the flow capture. It keeps the ignition log, the last-stop time outside a
burner stop, the retry count, the cap level, the burner start time, the listed services that still call, the cylinder timer and block
short of a timeout, a lockout unless the boiler condition handed ends it, and the expiries under way; FIRING ends without a usable pipe
unit, and past min_on without a served service or its path; OFF and HELD are judged for the served service; the FROST call is judged, and
the flow target computed again. A changed flow pulse input clears the flow capture, and a changed flow_timeout reloads the watch limit.
What the tries after the reconciliation may open by a grant is left out where said (R41, R43, R111, R114 to R116, R157, R160, R161, R166,
R169, R170, R175, R178, R180). Three clauses rest on the model's reading: that a changed index clears the flow states at once (assumption
26), the watch limit where the pump has not started yet (assumption 39), and that an outdoor unit newly named and already LOST starts no
hold, where R178's table gives its held value for 3,600 s (assumption 47). -/
def Obligations.AdoptionKeepsTheHeatSource : Prop :=
  ∀ s : State,
    s.plan.check = .running → reportedViolation (workingPlan (storedPlan s.plan.shadow)) = none →
    ∃ t, exec .planCheckCompletion s = .next t ∧
      let p := workingPlan (storedPlan s.plan.shadow)
      let old := s.plan.active
      let h := s.heat
      let u := t.heat
      let now := s.clk.runSeconds
      let handed (active : Bool) : Prop :=
        (old = none ∨ s.inp.boilerFault ≠ t.inp.boilerFault) ∧ t.inp.boilerFault = active
      let granted : Prop := ∃ z : Fin 12, t.drv[z].lastGrant = some now
      let ended : Prop := h.state = .lockout ∧ h.cause = .boiler ∧ handed false
      (u.ignitions = h.ignitions ∧ u.retryCount = h.retryCount ∧ u.cap = h.cap ∧ u.burnerStart = h.burnerStart ∧
        u.lastStop = if h.state = .firing ∧ u.state ≠ .firing then now else h.lastStop) ∧
      (∀ v ∈ h.inService, ServiceCalls p t v → v ∈ u.inService) ∧
      ((h.cylTimer < p.header.cylMax * 60 → u.cylBlock = h.cylBlock) ∧
        (u.cylBlock ≠ h.cylBlock → u.cylBlock = some (now + p.header.cylBlock * 60)) ∧
        (Service.cylinder ∈ u.inService → u.cylTimer = h.cylTimer) ∧
        (Service.cylinder ∈ h.inService → Service.cylinder ∉ u.inService → u.cylTimer = 0)) ∧
      (u.frostCall = true ↔ pipeUsable p t = true ∧ ∃ v, pipeHeld p t = some v ∧ if h.frostCall = true then v < 240 else v < 64) ∧
      ((handed true → u.boilerNoted = true) ∧ (handed false → u.boilerNoted = false) ∧
        (¬handed true → ¬handed false → u.boilerNoted = h.boilerNoted)) ∧
      (h.state = .lockout → ¬ended → u.state = .lockout ∧ u.cause = h.cause ∧ u.retryExpiry = h.retryExpiry ∧
        u.pumpRunExpiry = h.pumpRunExpiry) ∧
      (ended → u.cause = .none ∧ u.state ≠ .lockout) ∧
      (h.state ≠ .lockout → handed true → u.state = .lockout ∧ u.cause = .boiler) ∧
      (h.state ≠ .lockout → ¬handed true → u.state ≠ .lockout ∧ u.cause = h.cause) ∧
      (h.state = .firing → ¬handed true →
        (pipeUsable p t = false → u.state = .postrun ∧ u.postrunExpiry = some (now + p.header.postrun * 60)) ∧
        (pipeUsable p t = true → ¬granted → (u.state = .firing ↔
          now < h.burnerStart + p.header.minOn * 60 ∨ ∃ v, served t = some v ∧ pathHolds p t v = true))) ∧
      (h.state = .prerun → u.state = .prerun → ¬granted → u.prerunExpiry = h.prerunExpiry) ∧
      (h.state = .postrun → u.state = .postrun → u.postrunExpiry = h.postrunExpiry) ∧
      (h.state = .off ∨ h.state = .held ∨ ended → ¬handed true → ¬granted →
        (served t = none → u.state = .off) ∧
        ∀ v, served t = some v → u.hold = startBlock p t v ∧
          u.state = if startBlock p t v = .none then .prerun else .held) ∧
      (∀ v, served t = some v → u.flowTarget = capTarget p.header (effectiveCap t) (serviceTarget p t v)) ∧
      (∀ e, outdoorUnit p = some e → u.outdoorHold =
        if old.map (·.header.outdoorIndex) = some p.header.outdoorIndex ∧ entryClass old p e = .retained then h.outdoorHold
        else none) ∧
      (old.map (·.header.flowIndex) ≠ some p.header.flowIndex →
        t.inp.capture = 0 ∧ t.inp.period = 0 ∧ t.inp.pulses = 0 ∧ t.inp.watch = flowLimit p ∧
        t.inp.flow = ⟨false, false, false⟩) ∧
      (old.map (·.header.flowIndex) = some p.header.flowIndex → h.state ≠ .lockout → ¬granted →
        t.inp.period = s.inp.period ∧
        (pumpOn h = false → pumpOn u = true → t.inp.capture = 0 ∧ t.inp.pulses = 0 ∧ t.inp.watch = flowLimit p) ∧
        (pumpOn h = true ∨ pumpOn u = false → t.inp.capture = s.inp.capture ∧ t.inp.pulses = s.inp.pulses ∧
          t.inp.watch = if old.map (·.header.flowTimeout) = some p.header.flowTimeout then s.inp.watch
            else if s.inp.period ≠ 0 ∧ 1 ≤ s.inp.pulses then min (2 * s.inp.period) (flowLimit p) else flowLimit p) ∧
        t.inp.flow = if pumpOn h = true ∧ pumpOn u = false then ⟨false, false, false⟩ else s.inp.flow)

/-- Whatever the shadow holds, the working values of the header and of the records in use lie in their ranges (R23 to R27). -/
def Obligations.WorkingValuesLieInTheirRanges : Prop :=
  ∀ m : List Host.Cell,
    let p := workingPlan (storedPlan m)
    let h := p.header
    (h.frostPriority ≤ 7 ∧ h.cylPriority ≤ 7 ∧ h.heatPriority ≤ 7 ∧ (h.pipeIndex ≤ 15 ∨ h.pipeIndex = 255) ∧
      (h.outdoorIndex ≤ 15 ∨ h.outdoorIndex = 255) ∧ -20 ≤ h.defaultOutdoor ∧ h.defaultOutdoor ≤ 20 ∧
      2 ≤ h.slope ∧ h.slope ≤ 40 ∧ -20 ≤ h.shift ∧ h.shift ≤ 20 ∧ 20 ≤ h.flowMin ∧ h.flowMin ≤ 50 ∧
      h.flowMin + 5 ≤ h.flowMax ∧ 40 ≤ h.flowMax ∧ h.flowMax ≤ 85 ∧ h.dshift ≤ 15 ∧ 1 ≤ h.callThreshold ∧
      h.callThreshold ≤ 128 ∧ 70 ≤ h.overheat ∧ h.overheat ≤ 95 ∧ 40 ≤ h.bandLow ∧ h.bandLow ≤ 100 ∧ 40 ≤ h.bandMid ∧
      h.bandMid ≤ 100 ∧ 30 ≤ h.cap1Flow ∧ h.cap1Flow ≤ h.flowMax ∧ 50 ≤ h.cylFlow ∧ h.cylFlow ≤ 80) ∧
    (1 ≤ h.ignMax ∧ h.ignMax ≤ 6 ∧ 1 ≤ h.minOn ∧ h.minOn ≤ 10 ∧ 1 ≤ h.minOff ∧ h.minOff ≤ 30 ∧ 5 ≤ h.prerun ∧
      h.prerun ≤ 60 ∧ 1 ≤ h.postrun ∧ h.postrun ≤ 15 ∧ 10 ≤ h.cylMax ∧ h.cylMax ≤ 120 ∧ 5 ≤ h.cylBlock ∧
      h.cylBlock ≤ 120 ∧ (h.flowIndex ≤ 7 ∨ h.flowIndex = 255) ∧ 2 ≤ h.flowTimeout ∧ h.flowTimeout ≤ 30) ∧
    (∀ n : Fin 12, p.zones[n].enabled = true →
      let r := p.zones[n]
      r.priority ≤ 7 ∧ 1 ≤ r.kp ∧ r.kp ≤ 64 ∧ r.ki ≤ 32 ∧ r.deadband ≤ 16 ∧ 30 ≤ r.openTime ∧ r.openTime ≤ 300 ∧
      30 ≤ r.closeTime ∧ r.closeTime ≤ 300 ∧ r.minOn ≤ 120 ∧ r.fallback ≤ 254 ∧ 2 ≤ r.hysteresis ∧ r.hysteresis ≤ 10 ∧
      (r.kind = .room → 10 ≤ r.frostSp ∧ r.frostSp ≤ 24 ∧
        ∀ x ∈ [r.ecoSp, r.comfortSp, r.comfortPlusSp], r.frostSp ≤ x ∧ x ≤ 60) ∧
      (r.kind = .cylinder → ∀ x ∈ [r.frostSp, r.ecoSp, r.comfortSp, r.comfortPlusSp], 20 ≤ x ∧ x ≤ 140)) ∧
    (∀ g : Fin 2, 1 ≤ p.groups[g].maxEnergised ∧ p.groups[g].maxEnergised ≤ 16 ∧ 1 ≤ p.groups[g].inrushMax ∧
      p.groups[g].inrushMax ≤ 8 ∧ 1 ≤ p.groups[g].inrushWindow ∧ p.groups[g].inrushWindow ≤ 60) ∧
    (∀ k : Fin 8, (p.inputs[k].role ≠ .none → p.inputs[k].debounce ≤ 3) ∧
      (p.inputs[k].role = .supplyLow → p.inputs[k].group ≤ 1)) ∧
    (∀ i : Fin 16, p.sensors[i].enabled = true → -32 ≤ p.sensors[i].offset ∧ p.sensors[i].offset ≤ 32)

/-- A plan that the check does not refuse satisfies the structural conditions of R32, code by code: magic and version; listed codes in the
enumerated fields; distinct service priorities; ordered bands; well-formed day profiles; a suitable sensor for each enabled zone; outputs
shared by no two zones; room masks of one group within its limit; no output and at most one zone of kind CYLINDER; distinct bus addresses;
and a usable pipe unit, flow pulse input and outdoor unit. -/
def Obligations.AdoptedPlansAreSound : Prop :=
  ∀ p : Plan, reportedViolation p = none →
    (p.header.magic0 = 0x47 ∧ p.header.magic1 = 0x53 ∧ p.header.version = 1) ∧
    ((∀ z : Fin 12, p.zones[z].enabled = true → p.zones[z].kind = .room ∨ p.zones[z].kind = .cylinder) ∧
      (∀ k : Fin 8, p.inputs[k].role ∈ [InputRole.none, .window, .flowPulse, .boilerFault, .supplyLow] ∧
        (p.inputs[k].role ≠ .none → p.inputs[k].active = .low ∨ p.inputs[k].active = .high) ∧
        (p.inputs[k].role = .flowPulse → p.inputs[k].edge ∈ [EdgeSelect.none, .rising, .falling, .both])) ∧
      (∀ i : Fin 16, p.sensors[i].enabled = true → p.sensors[i].role ∈ [SensorRole.room, .outdoor, .pipe, .cylinder])) ∧
    (p.header.frostPriority ≠ p.header.cylPriority ∧ p.header.frostPriority ≠ p.header.heatPriority ∧
      p.header.cylPriority ≠ p.header.heatPriority) ∧
    (p.header.bandLow < p.header.bandMid ∧ p.header.bandMid ≤ p.header.overheat) ∧
    (∀ (z : Fin 12) (d : Fin 7), p.zones[z].enabled = true → ∃ h : p.zones[z].week[d] < 64,
      let q := p.profiles[p.zones[z].week[d]]
      q.count ≤ 8 ∧ (∀ w ∈ listedPoints q, w.minute ≤ 1439 ∧ w.level ≤ 3) ∧
      (listedPoints q).Pairwise fun a b => a.minute < b.minute) ∧
    (∀ z : Fin 12, p.zones[z].enabled = true → ∃ h : p.zones[z].sensor < 16,
      p.sensors[p.zones[z].sensor].enabled = true ∧
      (p.zones[z].kind = .room → p.sensors[p.zones[z].sensor].role = .room) ∧
      (p.zones[z].kind = .cylinder → p.sensors[p.zones[z].sensor].role = .cylinder)) ∧
    (∀ z y : Fin 12, z ≠ y → p.zones[z].enabled = true → p.zones[y].enabled = true →
      p.zones[z].mask &&& p.zones[y].mask = 0) ∧
    (∀ z : Fin 12, isRoom p z = true →
      p.zones[z].mask ≠ 0 ∧ (p.zones[z].mask &&& 0x00FF = 0 ∨ p.zones[z].mask &&& 0xFF00 = 0) ∧
      outputCount p.zones[z].mask ≤ p.groups[zoneGroup p z].maxEnergised) ∧
    (∀ z : Fin 12, isCylinder p z = true → p.zones[z].mask = 0) ∧
    (∀ z y : Fin 12, isCylinder p z = true → isCylinder p y = true → z = y) ∧
    (∀ i j : Fin 16, p.sensors[i].enabled = true → p.sensors[j].enabled = true →
      1 ≤ p.sensors[i].address ∧ p.sensors[i].address ≤ 31 ∧ (i ≠ j → p.sensors[i].address ≠ p.sensors[j].address)) ∧
    ((∃ z : Fin 12, p.zones[z].enabled = true) → ∃ h : p.header.pipeIndex < 16,
      p.sensors[p.header.pipeIndex].enabled = true ∧ p.sensors[p.header.pipeIndex].role = .pipe) ∧
    (∀ k, flowInput p = some k → p.inputs[k].role = .flowPulse) ∧
    (∀ h : p.header.outdoorIndex < 16,
      p.sensors[p.header.outdoorIndex].enabled = true ∧ p.sensors[p.header.outdoorIndex].role = .outdoor)

/-- A RELOAD in flight completes with its check: DONE, with the refusal code or 0 as its detail. The check refuses or adopts as without it,
and the attention number rises once for the check and once for the request (R33, R34, R65, R66, R74, R186). -/
def Obligations.ReloadCompletesWithItsCheck : Prop :=
  ∀ (s : State) (f : InFlight), s.plan.check = .running → s.req.inFlight = some f →
    ∃ t, exec .planCheckCompletion s = .next t ∧
      t.req.inFlight = none ∧ t.req.consumer = s.req.consumer + 1 ∧ t.req.producer = s.req.producer ∧
      t.req.results[s.req.consumer.toNat % 16] =
        ⟨f.tag, .done,
          match reportedViolation (workingPlan (storedPlan s.plan.shadow)) with
          | some v => refusalNumber v.code
          | none => 0,
          s.req.consumer⟩ ∧
      (∀ k : Fin 16, k.val ≠ s.req.consumer.toNat % 16 → t.req.results[k] = s.req.results[k]) ∧
      t.req.synced = s.req.synced ∧ t.req.overrun = s.req.overrun ∧ t.mem = s.mem ∧
      (reportedViolation (workingPlan (storedPlan s.plan.shadow)) = none → AdoptionTaken 2 s t) ∧
      ∀ v, reportedViolation (workingPlan (storedPlan s.plan.shadow)) = some v → Quiet s →
        RefusalTaken v 2 s t ∧ sameBesides [.plan, .req, .faults, .pins] s t

/-! ## Clock and schedule -/

/-- A run second outside a reset: run seconds and the clock advance by one second of the week, the tick counter by one of 60, and the
cylinder timer while CYLINDER is served and HEATING calls (R47, R49, R50, R160), as far as cyl_max × 60 (inferred, assumption 21); a tick
that was not taken ahead of this run second, and every twentieth run second's cycle start, then wait for their commands (R123; model's
choice, assumption 3). During a pin reset it advances run seconds and the clock, by one second of the week, and nothing else (R60). -/
def Obligations.RunSecondAdvancesTheTime : Prop :=
  (∀ s : State, s.mem.inReset = some .pin → s.clk.second < 60 → s.clk.minute < 1440 → s.clk.day < 7 → Quiet s →
    ∃ t, exec .runSecond s = .next t ∧
      t.clk = { s.clk with
        runSeconds := s.clk.runSeconds + 1, day := t.clk.day, minute := t.clk.minute, second := t.clk.second } ∧
      t.clk.second < 60 ∧ t.clk.minute < 1440 ∧ t.clk.day < 7 ∧
      (t.clk.day * 1440 + t.clk.minute) * 60 + t.clk.second =
        ((s.clk.day * 1440 + s.clk.minute) * 60 + s.clk.second + 1) % 604800 ∧
      sameBesides [.clk, .pins] s t) ∧
  ∀ s : State, s.mem.inReset = none → s.clk.second < 60 → s.clk.minute < 1440 → s.clk.day < 7 → s.clk.tickCounter < 60 →
    Quiet s →
    ∃ t, exec .runSecond s = .next t ∧ t.clk.runSeconds = s.clk.runSeconds + 1 ∧
      t.clk.second < 60 ∧ t.clk.minute < 1440 ∧ t.clk.day < 7 ∧
      (t.clk.day * 1440 + t.clk.minute) * 60 + t.clk.second =
        ((s.clk.day * 1440 + s.clk.minute) * 60 + s.clk.second + 1) % 604800 ∧
      t.clk.tickCounter = (s.clk.tickCounter + 1) % 60 ∧
      t.clk.tickDue = (s.clk.tickDue || (s.clk.tickCounter == 59 && !s.clk.tickAhead)) ∧
      t.clk.ageDue = (s.clk.ageDue || (s.clk.tickCounter == 59 && !s.clk.ageAhead)) ∧
      t.clk.tickAhead = (s.clk.tickAhead && s.clk.tickCounter != 59) ∧
      t.clk.ageAhead = (s.clk.ageAhead && s.clk.tickCounter != 59) ∧
      t.clk.cycleDue = ((s.clk.runSeconds + 1) % 20 == 0) ∧
      t.clk.valid = s.clk.valid ∧ t.clk.level = s.clk.level ∧ t.clk.target = s.clk.target ∧
      (∀ p, s.plan.active = some p →
        t.heat.cylTimer = s.heat.cylTimer +
          (if served s = some .cylinder ∧ heatingCalls p s = true ∧ s.heat.cylTimer < p.header.cylMax * 60 then 1 else 0)) ∧
      (s.plan.active = none → t.heat = s.heat) ∧
      t.heat = { s.heat with cylTimer := t.heat.cylTimer } ∧ sameBesides [.clk, .heat, .pins] s t

/-- A minute tick ages every override entry by 1, removes those that reach 0, and evaluates every zone's level and target; an
OVERRIDE_EXPIRY taken before it ages the list and decides the targets from the held levels; and a tick taken before the run second that
rolls the clock evaluates the old minute, which that run second leaves in force (R49, R50, R53 to R58, R79; how the tick waits, and how it
is taken ahead, is the model's choice, assumption 3). -/
def Obligations.MinuteTickAgesAndEvaluates : Prop :=
  ∀ (s : State) (p : Plan), s.plan.active = some p → Quiet s →
    let aged : OverrideList := { s.ovr with entries := (s.ovr.entries.filter fun e => 2 ≤ e.remaining).map fun e =>
      { e with remaining := e.remaining - 1 } }
    let evaluated (t : State) : Prop :=
      (∀ z : Fin 12, t.clk.level[z] =
        if p.zones[z].enabled then
          some (if s.clk.valid then scheduleLevel p p.zones[z] s.clk.day s.clk.minute else .eco)
        else none) ∧
      (∀ z : Fin 12, t.clk.target[z] = targetOf p t.ovr t.clk.level[z] z)
    (s.clk.tickDue = true → s.clk.ageDue = true →
      (∃ t, exec .minuteTick s = .next t ∧ t.ovr = aged ∧ evaluated t ∧
        t.clk = { s.clk with tickDue := false, ageDue := false, level := t.clk.level, target := t.clk.target } ∧
        sameBesides [.clk, .ovr, .pins] s t) ∧
      ((∃ e ∈ s.ovr.entries, e.remaining ≤ 1) →
        ∃ t, exec .overrideExpiry s = .next t ∧ t.ovr = aged ∧
          t.clk = { s.clk with ageDue := false, target := t.clk.target } ∧
          (∀ z : Fin 12, t.clk.target[z] = targetOf p t.ovr s.clk.level[z] z) ∧
          sameBesides [.clk, .ovr, .pins] s t)) ∧
    (s.clk.tickDue = false → s.clk.ageDue = false → s.clk.tickCounter = 59 → s.clk.tickAhead = false →
      s.clk.ageAhead = false → s.mem.inReset = none →
      ∃ t v, exec .minuteTick s = .next t ∧ exec .runSecond t = .next v ∧ t.ovr = aged ∧ evaluated t ∧
        t.clk.day = s.clk.day ∧ t.clk.minute = s.clk.minute ∧ t.clk.second = s.clk.second ∧
        t.clk.runSeconds = s.clk.runSeconds ∧ t.clk.tickCounter = 59 ∧ sameBesides [.clk, .ovr, .pins] s t ∧
        v.clk.runSeconds = s.clk.runSeconds + 1 ∧ v.clk.tickCounter = 0 ∧ v.clk.tickDue = false ∧ v.clk.ageDue = false ∧
        v.clk.level = t.clk.level ∧ v.clk.target = t.clk.target ∧ v.ovr = aged)

/-- The level of a zone is that of the last switch point at or before the minute, or carried from the nearest earlier day that has
one, or ECO (R53). -/
def Obligations.ScheduleLevelIsTheLastSwitchPoint : Prop :=
  ∀ (p : Plan) (r : ZoneRec) (day minute : Nat), day < 7 →
    (profileFor p r day).Pairwise (fun a b => a.minute < b.minute) →
    (∀ w ∈ profileFor p r day, w.minute ≤ minute → (∀ v ∈ profileFor p r day, v.minute ≤ minute → v.minute ≤ w.minute) →
      scheduleLevel p r day minute = (levelOf? w.level).getD .eco) ∧
    ((∀ w ∈ profileFor p r day, minute < w.minute) →
      (∀ k w, 1 ≤ k → k ≤ 7 → (∀ j, 1 ≤ j → j < k → profileFor p r ((day + 7 - j) % 7) = []) →
        (profileFor p r ((day + 7 - k) % 7)).getLast? = some w →
        scheduleLevel p r day minute = (levelOf? w.level).getD .eco) ∧
      ((∀ d, d < 7 → profileFor p r d = []) → scheduleLevel p r day minute = .eco))

/-- Under a plan of working values, every enabled room zone's target lies within its frost setpoint and 30.0 °C and every cylinder
zone's within 10 to 70 °C, whatever overrides cover it (R56, R57). -/
def Obligations.TargetsLieInTheirRanges : Prop :=
  ∀ (m : List Host.Cell) (o : OverrideList) (l : Level) (z : Fin 12),
    let p := workingPlan (storedPlan m)
    (isRoom p z = true → (p.zones[z].frostSp : Int) * 8 ≤ targetOf p o (some l) z ∧ targetOf p o (some l) z ≤ 480) ∧
    (isCylinder p z = true → 160 ≤ targetOf p o (some l) z ∧ targetOf p o (some l) z ≤ 1120) ∧
    (p.zones[z].enabled = false → targetOf p o (some l) z = 0)

/-! ## Requests and overrides -/

/-- SET CLOCK: accepted, it sets the clock and its valid flag, ends CLOCK_INVALID and evaluates every zone; out of range, it answers
BADPARAM and leaves the clock (R52, R65, R70). -/
def Obligations.SetClockSetsTheClock : Prop :=
  ∀ s : State, requestDue s = true → slotKind s = .setClock → Quiet s →
    let day := slotByte s 2
    let minute := slotByte s 3 + 256 * slotByte s 4
    let slot := s.req.consumer.toNat % 16
    let f := { s.faults with attention := s.faults.attention + 1 }
    (day ≤ 6 → minute ≤ 1439 → ∃ t, exec .setClock s = .next t ∧
      t.clk.day = day ∧ t.clk.minute = minute ∧ t.clk.second = 0 ∧ t.clk.valid = true ∧
      t.clk.runSeconds = s.clk.runSeconds ∧ t.clk.tickCounter = s.clk.tickCounter ∧
      (∀ p, s.plan.active = some p → ∀ z : Fin 12,
        t.clk.level[z] = (if p.zones[z].enabled then some (scheduleLevel p p.zones[z] day minute) else none) ∧
        t.clk.target[z] = targetOf p s.ovr t.clk.level[z] z) ∧
      t.faults = (if s.clk.valid then f else applyEnds f .clockInvalid 255) ∧
      t.req.results[slot] = ⟨slotTag s, .done, 0, s.req.consumer⟩ ∧ t.req.consumer = s.req.consumer + 1 ∧
      sameBesides [.clk, .req, .faults, .pins] s t) ∧
    ((6 < day ∨ 1439 < minute) → ∃ t, exec .setClock s = .next t ∧
      t.req.results[slot] = ⟨slotTag s, .badParam, if 6 < day then 1 else 2, s.req.consumer⟩ ∧
      t.req.consumer = s.req.consumer + 1 ∧ t.faults = f ∧ sameBesides [.req, .faults, .pins] s t)

/-- ADD OVERRIDE: with parameters in range and room in the list, an entry with a new id joins as the most recent, and the targets follow;
else it answers NOPLAN, BADPARAM with the first parameter out of range, or FULL, and the list stays (R65, R69, R71). -/
def Obligations.AddOverrideJoinsOrAnswers : Prop :=
  ∀ s : State, requestDue s = true → slotKind s = .addOverride → Quiet s →
    let slot := s.req.consumer.toNat % 16
    let answers (t : State) (status : Status) (detail : Nat) : Prop :=
      t.req.results[slot]? = some ⟨slotTag s, status, detail, s.req.consumer⟩ ∧ t.req.consumer = s.req.consumer + 1 ∧
      t.faults = { s.faults with attention := s.faults.attention + 1 }
    (s.plan.active = none → ∃ t, exec .addOverride s = .next t ∧ answers t .noPlan 0 ∧
      sameBesides [.req, .faults, .pins] s t) ∧
    ∀ p, s.plan.active = some p →
      let mask := BitVec.ofNat 12 (slotByte s 2 + 256 * slotByte s 3) &&& enabledMask p
      let duration := slotByte s 7 + 256 * slotByte s 8
      let mode := slotByte s 5
      let value := slotByte s 6
      let wrong := if mask = 0 then 1 else if 7 < slotByte s 4 then 2 else if mode = 0 ∨ 2 < mode then 3
        else if mode = 1 ∧ 3 < value then 4 else if duration = 0 then 5 else 0
      (wrong ≠ 0 → ∃ t, exec .addOverride s = .next t ∧ answers t .badParam wrong ∧
        sameBesides [.req, .faults, .pins] s t) ∧
      (wrong = 0 → 16 ≤ s.ovr.entries.length → ∃ t, exec .addOverride s = .next t ∧ answers t .full 0 ∧
        sameBesides [.req, .faults, .pins] s t) ∧
      (wrong = 0 → s.ovr.entries.length < 16 → ∃ t, exec .addOverride s = .next t ∧ answers t .done (nextId s.ovr) ∧
        (∃ v, (mode = 1 → ∃ l, levelOf? value = some l ∧ v = .level l) ∧ (mode = 2 → v = .setpoint value) ∧
          t.ovr = { entries := s.ovr.entries ++ [⟨nextId s.ovr, mask, slotByte s 4, v, duration⟩], lastId := nextId s.ovr }) ∧
        (∀ z : Fin 12, t.clk.target[z] = targetOf p t.ovr s.clk.level[z] z) ∧
        sameBesides [.req, .ovr, .clk, .faults, .pins] s t)

/-- The id of a new entry: the first after the last assigned id, counting 1 to 255 and again from 1, that no entry carries; it is then
the last assigned id, which is 0 after every reset (R76). -/
def Obligations.NewOverrideIdIsTheFirstFreeOne : Prop :=
  (∀ o : OverrideList, o.entries.length ≤ 16 →
    ∃ k, k < 255 ∧ nextId o = (o.lastId + k) % 255 + 1 ∧ (∀ e ∈ o.entries, e.id ≠ nextId o) ∧
      (∀ j, j < k → ∃ e ∈ o.entries, e.id = (o.lastId + j) % 255 + 1) ∧ 1 ≤ nextId o ∧ nextId o ≤ 255 ∧
      ∀ mask priority v duration, (joinOverride mask priority v duration o).lastId = nextId o) ∧
  (∀ (s : State) (k : ResetKind), ∃ t, exec (resetCommand k) s = .next t ∧ t.ovr.lastId = 0 ∧ t.ovr.entries = [] ∧
    nextId t.ovr = 1)

/-- CANCEL OVERRIDE: id 0 removes every entry, another id the entry that carries it, and an unknown id answers NOTFOUND; the winners
follow the list and the targets of its zones are decided again. With plan status NONE it answers NOPLAN (R69, R72). -/
def Obligations.CancelOverrideRemovesEntries : Prop :=
  ∀ s : State, requestDue s = true → slotKind s = .cancelOverride → Quiet s →
    let id := slotByte s 2
    let slot := s.req.consumer.toNat % 16
    (s.plan.active = none → ∃ t, exec .cancelOverride s = .next t ∧ t.req.consumer = s.req.consumer + 1 ∧
      t.req.results[slot]? = some ⟨slotTag s, .noPlan, 0, s.req.consumer⟩ ∧
      t.faults = { s.faults with attention := s.faults.attention + 1 } ∧ sameBesides [.req, .faults, .pins] s t) ∧
    ∀ p, s.plan.active = some p → OverrideListWf s.ovr →
    ∃ t, exec .cancelOverride s = .next t ∧ t.req.consumer = s.req.consumer + 1 ∧
      t.ovr.lastId = s.ovr.lastId ∧ t.faults = { s.faults with attention := s.faults.attention + 1 } ∧
      (id = 0 → t.ovr.entries = [] ∧ t.req.results[slot]? = some ⟨slotTag s, .done, s.ovr.entries.length, s.req.consumer⟩) ∧
      (id ≠ 0 → (∃ e ∈ s.ovr.entries, e.id = id) →
        t.ovr.entries = (s.ovr.entries.filter fun e => e.id ≠ id) ∧ t.ovr.entries.length + 1 = s.ovr.entries.length ∧
        t.req.results[slot]? = some ⟨slotTag s, .done, 1, s.req.consumer⟩) ∧
      (id ≠ 0 → (∀ e ∈ s.ovr.entries, e.id ≠ id) →
        t.ovr = s.ovr ∧ t.clk = s.clk ∧ t.req.results[slot]? = some ⟨slotTag s, .notFound, id, s.req.consumer⟩) ∧
      ((id = 0 ∨ ∃ e ∈ s.ovr.entries, e.id = id) →
        ∀ z : Fin 12, t.clk.target[z] = targetOf p t.ovr s.clk.level[z] z) ∧
      sameBesides [.req, .ovr, .clk, .faults, .pins] s t

/-- The winner of a zone is its covering entry of the numerically lowest priority, and of those the one added last (R77). -/
def Obligations.WinnerIsTheHighestPriorityAddedLast : Prop :=
  ∀ (o : OverrideList) (z : Fin 12),
    (winner o z = none ↔ ∀ e ∈ o.entries, e.mask.getLsbD z.val = false) ∧
    ∀ e, winner o z = some e → ∃ before after, o.entries = before ++ e :: after ∧ e.mask.getLsbD z.val = true ∧
      (∀ f ∈ before, f.mask.getLsbD z.val = true → e.priority ≤ f.priority) ∧
      (∀ f ∈ after, f.mask.getLsbD z.val = true → e.priority < f.priority)

/-- CLEAR LOCKOUT: it ends a NOFLOW lockout and a cool enough OVERHEAT lockout, with its pump run cut short and its fault gone, and R166
applies at once; with the boiler condition noted it leads to LOCKOUT with cause BOILER instead. It answers TOOHOT where it may not end the
lockout, and DONE with detail 0 outside LOCKOUT; with plan status NONE it answers NOPLAN (R65, R69, R73, R115, R164, R166, R172, R174 to
R176). -/
def Obligations.ClearLockoutAnswers : Prop :=
  ∀ s : State, requestDue s = true → slotKind s = .clearLockout → Quiet s →
    let slot := s.req.consumer.toNat % 16
    let f := { s.faults with attention := s.faults.attention + 1 }
    let answers (t : State) (status : Status) (detail : Nat) : Prop :=
      t.req.results[slot]? = some ⟨slotTag s, status, detail, s.req.consumer⟩ ∧ t.req.consumer = s.req.consumer + 1
    let stays (t : State) : Prop := t.faults = f ∧ sameBesides [.req, .faults, .pins] s t
    (s.plan.active = none → ∃ t, exec .clearLockout s = .next t ∧ answers t .noPlan 0 ∧ stays t) ∧
    ∀ p, s.plan.active = some p → ∃ t, exec .clearLockout s = .next t ∧
      let ends (fault : FaultCode) : Prop :=
        t.heat.retryExpiry = none ∧ t.heat.pumpRunExpiry = none ∧ t.heat.lastStop = s.heat.lastStop ∧
        t.heat.ignitions = s.heat.ignitions ∧ t.heat.inService = s.heat.inService ∧ t.heat.cap = s.heat.cap ∧
        t.heat.boilerNoted = s.heat.boilerNoted ∧
        (pumpOn s.heat = true → t.inp.flow = ⟨false, false, false⟩) ∧
        (s.heat.boilerNoted = false → t.heat.cause = .none ∧ t.faults = applyEnds f fault 255 ∧
          (served s = none → t.heat.state = .off ∧ t.pins.pump = false ∧ t.pins.div = false) ∧
          ∀ v, served s = some v →
            (startBlock p s v ≠ .none → t.heat.state = .held ∧ t.heat.hold = startBlock p s v ∧ t.pins.pump = false) ∧
            (startBlock p s v = .none → t.heat.state = .prerun ∧ t.heat.hold = .none ∧ t.pins.pump = true ∧
              t.heat.prerunExpiry = some (s.clk.runSeconds + p.header.prerun) ∧ t.inp.capture = 0 ∧ t.inp.pulses = 0 ∧
              t.inp.watch = flowLimit p)) ∧
        (s.heat.boilerNoted = true → t.heat.state = .lockout ∧ t.heat.cause = .boiler ∧ t.pins.pump = false ∧
          t.pins.div = false ∧ t.faults = applyArises (applyEnds f fault 255) .boilerFault 255)
      (s.heat.state ≠ .lockout → answers t .done 0 ∧ stays t) ∧
      (s.heat.state = .lockout → s.heat.cause = .noFlow →
        answers t .done 1 ∧ t.heat.retryCount = 0 ∧ ends .noFlow) ∧
      (s.heat.state = .lockout → s.heat.cause = .overheat →
        (pipeUsable p s = true → ∀ v, pipeHeld p s = some v → v < (p.header.overheat : Int) * 16 - 160 →
          answers t .done 2 ∧ t.heat.retryCount = s.heat.retryCount ∧ ends .overheat) ∧
        ((pipeUsable p s = false ∨ ∀ v, pipeHeld p s = some v → (p.header.overheat : Int) * 16 - 160 ≤ v) →
          answers t .tooHot 2 ∧ stays t)) ∧
      (s.heat.state = .lockout → s.heat.cause = .boiler → answers t .tooHot 3 ∧ stays t) ∧
      sameBesides [.req, .inp, .heat, .faults, .pins] s t

/-- RELOAD starts a reload, abandons a running check and stays in flight; a request of unknown kind answers BADKIND with its kind
(R17, R19, R31, R66, R69). -/
def Obligations.ReloadAndUnknownKinds : Prop :=
  ∀ s : State, requestDue s = true → Quiet s →
    (slotKind s = .reload → ∃ t, exec .reload s = .next t ∧
      t.mem = { s.mem with busy := true, seq := .waiting, reload := true } ∧ t.pins.busy = true ∧
      t.plan = { s.plan with check := .idle } ∧
      t.req = { s.req with inFlight := some ⟨s.req.consumer, slotTag s⟩ } ∧
      sameBesides [.mem, .plan, .req, .pins] s t) ∧
    (∀ kind, slotByte s 0 = kind → (kind = 0 ∨ 5 < kind) → ∃ t, exec .unknownKind s = .next t ∧
      t.req.results[s.req.consumer.toNat % 16] = ⟨slotTag s, .badKind, kind, s.req.consumer⟩ ∧
      t.req.consumer = s.req.consumer + 1 ∧ t.req.inFlight = none ∧
      t.faults = { s.faults with attention := s.faults.attention + 1 } ∧ sameBesides [.req, .faults, .pins] s t)

/-! ## The sensor link -/

/-- The expiry of the poll timer, the moment at which the pipe unit becomes due, and the end of a pause are events at which the link
chooses: where it is IDLE with the timer expired, it starts a transaction to a due pipe unit, LIMITS while the mark is set, and else to
the next rotation entry, and it stays IDLE where the poll order gives no choice; where it is not, it goes on as it is. R86's other two
events are the end of a transaction, at which FailedAttemptsAndContentions and ValidReadingIsHeld state the choice, and an adoption, at
which AdoptionReconcilesLinkAndInputs states it (R84, R86, R88, R97 to R100; the millisecond count is the model's choice, assumption 4).
-/
def Obligations.LinkStartsTheNextTransaction : Prop :=
  ∀ (s : State) (p : Plan) (c : Instr) (l : Link), s.plan.active = some p → Quiet s →
    ((c = .pollTimerExpiry ∧ l = { s.link with pollExpiry := none } ∧ ∃ x, s.link.pollExpiry = some x ∧ x ≤ s.inp.time) ∨
      (c = .pipeUnitDue ∧ l = s.link ∧ (pipeUnit p).isSome = true ∧ ∀ x, s.link.pipeLast = some x → x + 500 ≤ s.inp.time) ∨
      (c = .contentionPauseEnd ∧ l = { s.link with state := .idle } ∧ s.link.state = .paused ∧
        s.link.pauseEnds ≤ s.inp.time)) →
    ∃ t, exec c s = .next t ∧ LinkChooses p s.inp.time l t.link ∧ sameBesides [.link, .pins] s t

/-- An attempt without a reply, or with an invalid one, is tried again once and then is a miss of its entry. A character received during
SENDING that differs from the one sent in its place by data byte, mark bit or framing, or comes where none was sent, is a contention and
so a miss at once, and the third in a row reports LINK_CONTENTION and pauses the link for 1,000 ms; one that matches changes nothing, and
so does one after SENDING. A miss that takes the entry into LOST reports SENSOR_LOST, and where it was STALE puts the RUNNING zones that
name it into FALLBACK; one of the outdoor unit starts or ends the hold. An outcome of a transaction that an adoption dropped is not
applied, and only the contentions count. At the end of either the link chooses (R40, R86 to R89, R92, R94 to R97, R100, R118, R119, R170,
R178; the model's choice are the millisecond count, assumption 4, the operands of ECHO_MISMATCH and SENDING's end, assumption 29, and that
the reports of one miss are one event, assumption 45). -/
def Obligations.FailedAttemptsAndContentions : Prop :=
  ∀ (s : State) (p : Plan) (x : LinkTransaction), s.plan.active = some p → s.link.txn = some x → s.link.state = .busy → Quiet s →
    let old := s.link.entries[x.entry]
    let reported (f : FaultUnit) : FaultUnit :=
      if x.dropped = false ∧ (old.state = .searching ∨ old.state = .stale) ∧ 6 ≤ old.misses + 1 then
        (allZones.filter fun z => decide (old.state = .stale) && p.zones[z].enabled && decide (p.zones[z].sensor = x.entry.val) &&
          decide (s.reg[z].mode = .running)).foldl (fun f z => applyArises f .zoneFallback z.val)
          (applyArises f .sensorLost x.entry.val)
      else f
    let ended (l : Link) (t : State) : Prop :=
      l = { s.link with state := l.state, txn := none, contentions := l.contentions, pauseEnds := l.pauseEnds
                        entries := l.entries, limitsMark := l.limitsMark } ∧
      (x.dropped = false → MissTaken p x.entry old s l t ∧ sameBesides [.link, .inp, .reg, .heat, .faults, .pins] s t) ∧
      (x.dropped = true → l.entries = s.link.entries ∧ l.limitsMark = s.link.limitsMark ∧ sameBesides [.link, .faults, .pins] s t)
    (∀ c, (c = .noReply ∨ ∃ chars, c = .replyEnd chars ∧ ReplyInvalid x chars) →
      (x.second = false → ∃ t, exec c s = .next t ∧
        t.link = { s.link with txn := some { x with second := true, started := s.inp.time } } ∧
        sameBesides [.link, .pins] s t) ∧
      (x.second = true → ∃ t l, exec c s = .next t ∧ ended l t ∧ l.state = .idle ∧ l.contentions = 0 ∧
        l.pauseEnds = s.link.pauseEnds ∧ t.faults = reported s.faults ∧ LinkChooses p s.inp.time l t.link)) ∧
    ∀ (place : Option Nat) (received : LinkChar),
      (s.inp.time ≤ x.started + x.frame.length * 110 / 96 + 1 →
        (∀ k c, place = some k → x.frame[k]? = some c →
          received.data ≠ c.data ∨ received.mark ≠ c.mark ∨ received.framed = false) →
        ∃ t l, exec (.echoMismatch place received) s = .next t ∧ ended l t ∧
          (s.link.contentions < 2 → l.state = .idle ∧ l.contentions = s.link.contentions + 1 ∧
            l.pauseEnds = s.link.pauseEnds ∧ t.faults = reported s.faults ∧ LinkChooses p s.inp.time l t.link) ∧
          (s.link.contentions = 2 → l.state = .paused ∧ l.contentions = 0 ∧ l.pauseEnds = s.inp.time + 1000 ∧
            t.faults = applyArises (reported s.faults) .linkContention 255 ∧ t.link = l)) ∧
      ((x.started + x.frame.length * 110 / 96 + 1 < s.inp.time ∨
          ∃ k c, place = some k ∧ x.frame[k]? = some c ∧ received = ⟨c.data, c.mark, true⟩) →
        ∃ t, exec (.echoMismatch place received) s = .next t ∧ sameBesides [.pins] s t)

/-- What a miss does to an entry: an ONLINE entry becomes STALE, and the sixth consecutive miss makes a SEARCHING or STALE entry LOST
(R92, R95). -/
def Obligations.MissesLeadToLost : Prop :=
  ∀ e : SensorEntry,
    (entryMiss e).held = e.held ∧ (entryMiss e).readTime = e.readTime ∧
    (entryMiss e).failures = min (e.failures + 1) (max 65535 e.failures) ∧
    (e.state = .online → (entryMiss e).state = .stale ∧ (entryMiss e).misses = 1) ∧
    (e.state ≠ .online → (entryMiss e).misses = min (e.misses + 1) (max 255 e.misses)) ∧
    ((e.state = .searching ∨ e.state = .stale) →
      (entryMiss e).state = if 6 ≤ e.misses + 1 then .lost else e.state) ∧
    ((e.state = .off ∨ e.state = .lost) → (entryMiss e).state = e.state) ∧
    (e.state = .online →
      (∀ k, 1 ≤ k → k ≤ 5 → (entryMiss^[k] e).state = .stale) ∧ ∀ k, 6 ≤ k → (entryMiss^[k] e).state = .lost)

/-- What a valid reply to the request in progress does. A reading in range becomes the held value with the offset correction, clamped, and
makes its entry ONLINE, which returns the zones that name it from FALLBACK to RUNNING and ends their ZONE_FALLBACK; a status other than 0,
and a temperature out of range, is a miss. A REPORT gives its unit flags and judges the unit type: a mismatch is a miss with the type-
fault flag set and SENSOR_TYPE reported, and a match ends them. A success of LIMITS counts and clears the LIMITS mark unless it was set
after the start. A reading of a pipe unit whose transaction began before the mark was set is not applied while the mark stands and the
entry is SEARCHING or LOST. A reading of the pipe unit hands its band to the heat source: the cap level follows, the overheat limit locks
a firing burner out, CAP2 stops it, and the FROST call is judged. A reading of the outdoor unit ends the hold, and the flow target is
computed again. Of a transaction that an adoption dropped no outcome is applied. LINK_CONTENTION ends, and the link chooses (R40, R85,
R86, R88 to R97, R100 to R102, R119, R135, R157, R170, R177, R178, R180). -/
def Obligations.ValidReadingIsHeld : Prop :=
  ∀ (s : State) (p : Plan) (x : LinkTransaction), s.plan.active = some p → s.link.txn = some x → Quiet s →
    (x.dropped = true → ∀ chars, ¬ReplyInvalid x chars → ∃ t, exec (.replyEnd chars) s = .next t ∧
      LinkChooses p s.inp.time { s.link with state := .idle, txn := none, contentions := 0 } t.link ∧
      t.faults = applyEnds s.faults .linkContention 255 ∧ sameBesides [.link, .faults, .pins] s t) ∧
    (x.dropped = false → x.frame.head?.map (·.data) = some (byteOf p.sensors[x.entry].address) →
    let old := s.link.entries[x.entry]
    let reply (l : List Byte) : Instr := .replyEnd (unmarked (withCheck (byteOf p.sensors[x.entry].address :: l)))
    let ended (l : Link) (t : State) : Prop :=
      l = { s.link with
        state := .idle, txn := none, contentions := 0, limitsMark := l.limitsMark, entries := l.entries } ∧
      LinkChooses p s.inp.time l t.link ∧
      (∀ f ∈ t.faults.entries, f.code = .linkContention → f.subject ≠ 255) ∧
      (∀ e : Fin 16, e ≠ x.entry → l.entries[e] = s.link.entries[e]) ∧
      sameBesides [.link, .inp, .reg, .heat, .faults, .pins] s t
    let isPipe : Prop := pipeUnit p = some x.entry
    let void : Prop := isPipe ∧ x.markedSince = true ∧ s.link.limitsMark = true ∧ (old.state = .searching ∨ old.state = .lost)
    let bandOfValue (v : Int) : Nat :=
      if v < (p.header.bandLow : Int) * 16 then 0 else if v < (p.header.bandMid : Int) * 16 then 1 else 2
    let read (v : Int) (band : Nat) (e : SensorEntry) : SensorEntry := { e with
      state := .online, misses := 0, held := some v, readTime := some s.clk.runSeconds,
      successes := satInc 65535 e.successes, lastBand := if pipeUnit p = some x.entry then band else e.lastBand }
    let back (z : Fin 12) : Prop := (old.state = .searching ∨ old.state = .lost) ∧ namesEntry p z x.entry
    let handed (v : Int) (band : Nat) (t : State) : Prop :=
      (∀ z : Fin 12, back z → s.reg[z].mode = .fallback →
        t.reg[z] = { s.reg[z] with mode := .running, call := t.reg[z].call } ∧
        (isCylinder p z = false → t.reg[z].call = s.reg[z].call) ∧
        (isCylinder p z = true → (t.reg[z].call = true ↔ s.reg[z].latch = true ∧ s.heat.cylBlock = none)) ∧
        ∀ f ∈ t.faults.entries, f.code = .zoneFallback → f.subject ≠ z.val) ∧
      (∀ z : Fin 12, ¬(back z ∧ (s.reg[z].mode = .fallback ∨ isCylinder p z = true)) → t.reg[z] = s.reg[z]) ∧
      (outdoorUnit p = some x.entry → t.heat.outdoorHold = none ∧ FlowTargetFormed p t) ∧
      (outdoorUnit p ≠ some x.entry → t.heat.outdoorHold = s.heat.outdoorHold) ∧
      (¬isPipe → t.heat.cap = s.heat.cap) ∧
      (isPipe →
        t.heat.cap = (if band = 0 then (if s.heat.cap = .cap2 then .cap1 else .cap0) else if band = 1 then .cap1 else .cap2) ∧
        (t.heat.frostCall = true ↔ if s.heat.frostCall = true then v < 240 else v < 64) ∧
        (s.heat.state = .firing → (∀ z : Fin 12, p.zones[z].enabled = true → p.zones[z].sensor ≠ x.entry.val) →
          ((p.header.overheat : Int) * 16 ≤ v → t.heat.state = .lockout ∧ t.heat.cause = .overheat ∧
            t.heat.lastStop = s.clk.runSeconds ∧ t.pins.burn = false ∧ t.pins.pump = true) ∧
          (v < (p.header.overheat : Int) * 16 → 2 ≤ band → t.heat.state = .postrun ∧ t.heat.lastStop = s.clk.runSeconds ∧
            t.pins.burn = false ∧ t.pins.pump = true) ∧
          (v < (p.header.overheat : Int) * 16 → band < 2 → s.clk.runSeconds < s.heat.burnerStart + p.header.minOn * 60 →
            t.heat.state = .firing ∧ t.pins.burn = true)))
    (x.command = .sample → ∀ status a b : Byte,
      let temp := signed16 (a.toNat + 256 * b.toNat)
      let v := clampInt (temp + p.sensors[x.entry].offset) (-640) 1600
      let good : Prop := status = 0 ∧ -640 ≤ temp ∧ temp ≤ 1600
      ∃ t l, exec (reply [status, a, b]) s = .next t ∧ ended l t ∧
        (good → l.limitsMark = s.link.limitsMark) ∧
        (good → ¬void → l.entries[x.entry] = read v (bandOfValue v) old ∧ handed v (bandOfValue v) t ∧
          ∀ f ∈ t.faults.entries, f.code = .sensorLost → f.subject ≠ x.entry.val) ∧
        (good → void → l.entries[x.entry] = old ∧ t.heat = s.heat ∧ t.reg = s.reg) ∧
        (¬good → MissTaken p x.entry old s l t)) ∧
    (x.command = .report → ∀ status a b peak flags kind : Byte,
      let temp := signed16 (a.toNat + 256 * b.toNat)
      let v := clampInt (temp + p.sensors[x.entry].offset) (-640) 1600
      let band := max (bandOfValue v) (min peak.toNat 2)
      let role := p.sensors[x.entry].role
      let fits : Prop := (role = .room ∧ kind = 1) ∨ (role = .outdoor ∧ kind = 2) ∨ (role = .pipe ∧ kind = 3) ∨
        (role = .cylinder ∧ kind = 4)
      let good : Prop := status = 0 ∧ fits ∧ flags.getLsbD 0 = false ∧ -640 ≤ temp ∧ temp ≤ 1600
      ∃ t l, exec (reply [status, a, b, peak, flags, kind]) s = .next t ∧ ended l t ∧ (good → l.limitsMark = s.link.limitsMark) ∧
        (l.entries[x.entry].typeFault = true ↔ ¬fits) ∧
        (let told := { old with
          faultFlag := flags.getLsbD 0, supplyFlag := flags.getLsbD 1, typeFault := l.entries[x.entry].typeFault }
         (good → ¬void → l.entries[x.entry] = read v band told ∧ handed v band t) ∧
         (good → void → l.entries[x.entry] = told ∧ t.heat = s.heat ∧ t.reg = s.reg) ∧
         (¬good → MissTaken p x.entry told s l t)) ∧
        (fits → ∀ f ∈ t.faults.entries, f.code = .sensorType → f.subject ≠ x.entry.val) ∧
        (¬fits → s.faults.entries.length < 15 →
          ∃ f ∈ t.faults.entries, f.code = .sensorType ∧ f.subject = x.entry.val)) ∧
    (x.command = .limits → ∀ status : Byte, ∃ t l, exec (reply [status]) s = .next t ∧ ended l t ∧
      (status = 0 → l.entries[x.entry] = { old with successes := satInc 65535 old.successes } ∧
        l.limitsMark = (s.link.limitsMark && x.markedSince) ∧ t.heat = s.heat ∧ t.reg = s.reg ∧ t.inp = s.inp) ∧
      (status ≠ 0 → MissTaken p x.entry old s l t)))

/-- A character received while the link is not BUSY is noise: it raises the noise count and changes nothing else (R103). -/
def Obligations.NoiseOnlyCounts : Prop :=
  ∀ s : State, Quiet s →
    (s.link.state ≠ .busy → ∃ t, exec .noiseCharacter s = .next t ∧
      t.link = { s.link with noise := if s.link.noise < 65535 then s.link.noise + 1 else s.link.noise } ∧
      sameBesides [.link, .pins] s t) ∧
    (s.link.state = .busy → ∃ t, exec .noiseCharacter s = .next t ∧ sameBesides [.pins] s t)

/-! ## Inputs and flow capture -/

/-- A sample event takes the raw levels; a change is recorded at the first sample that differs from the debounced level and dropped
when the level returns; with no role the debounced level follows. With PUMP on, the flow states after it, with what FLOW_LATE and
FLOW_NO_FLOW take, are: late from the watch limit on, no flow from T on, and established with 2 pulses while not late, unless no flow locks
a firing burner out (R106, R107, R113, R115; the millisecond count is the model's choice, assumption 4, and so is the split of the judging
into three commands, assumption 30). -/
def Obligations.SampleEventTakesTheLevels : Prop :=
  ∀ (s : State) (levels : Byte), s.mem.inReset = none → Quiet s →
    ∃ t, exec (.sampleEvent levels) s = .next t ∧ t.inp.time = s.inp.time + 1 ∧
      (∀ k : Fin 8, t.inp.pins[k].raw = levels.getLsbD k.val ∧ t.inp.pins[k].active = s.inp.pins[k].active ∧
        t.inp.pins[k].edges = s.inp.pins[k].edges ∧
        (inputRole s.plan.active k = .none →
          t.inp.pins[k].debounced = levels.getLsbD k.val ∧ t.inp.pins[k].pending = none) ∧
        (inputRole s.plan.active k ≠ .none → t.inp.pins[k].debounced = s.inp.pins[k].debounced ∧
          t.inp.pins[k].pending =
            if levels.getLsbD k.val = s.inp.pins[k].debounced then none
            else some (s.inp.pins[k].pending.getD (s.inp.time + 1)))) ∧
      t.inp.windowOpen = s.inp.windowOpen ∧ t.inp.windowEvents = s.inp.windowEvents ∧
      t.inp.boilerFault = s.inp.boilerFault ∧ t.inp.supplyLow = s.inp.supplyLow ∧
      sameBesides [.inp, .heat, .faults, .pins] s t ∧
      (pumpOn s.heat = false → t.heat = s.heat ∧ t.faults = s.faults ∧ t.inp.flow = s.inp.flow ∧
        t.inp.capture = match s.plan.active with
          | some p => if (flowInput p).isSome then min (s.inp.capture + 1) (max 65535 s.inp.capture) else s.inp.capture
          | none => s.inp.capture) ∧
      (∀ p, s.plan.active = some p → pumpOn s.heat = true → (flowInput p).isSome = true → s.inp.watch ≤ flowLimit p →
        let c := min (s.inp.capture + 1) (max 65535 s.inp.capture)
        (s.heat.state = .firing → c < flowLimit p) →
        t.inp.capture = c ∧ ∃ u v, exec .flowLate t = .next u ∧ exec .flowNoFlow u = .next v ∧
          v.inp = { t.inp with
            flow := ⟨decide (s.inp.watch ≤ c), decide (flowLimit p ≤ c),
              decide (2 ≤ s.inp.pulses) && decide (c < s.inp.watch)⟩ } ∧
          v.inp.watch = s.inp.watch ∧ v.inp.period = s.inp.period ∧ v.inp.pulses = s.inp.pulses ∧
          v.heat = { s.heat with flowTarget := v.heat.flowTarget, duty := v.heat.duty } ∧
          sameBesides [.inp, .heat, .pins] s v)

/-- A pending change held for its debounce time becomes the debounced level; the active flag follows, and an activation or a counted edge
raises the edge count. By the input's role: a counted edge of the flow pulse input is captured, and with PUMP on clears late and no flow
and establishes flow from the second pulse on, or makes flow late where it captures 0; the window states of the zones that name a WINDOW
input follow, and an OPEN event ends the zone's demand, call and request while a CLOSED event returns it to RUNNING or FALLBACK without a
demand; the boiler fault condition enters and ends the BOILER lockout; and a supply-low condition is reported, holds its group's requests,
and when it ends lets the group's head be tried (R106 to R109, R111 to R115, R118, R120, R121, R135, R144, R145, R150, R175; that FLOW_LATE
sets late is the model's choice, assumption 30). -/
def Obligations.DebouncedChangeIsTaken : Prop :=
  ∀ (s : State) (p : Plan) (k : Fin 8) (since : Nat), s.plan.active = some p → s.inp.pins[k].pending = some since →
    since + debounceTime p.inputs[k].debounce ≤ s.inp.time → Quiet s →
    ∃ t, exec (.debouncedLevelChange k) s = .next t ∧
      t.inp.pins[k].debounced = s.inp.pins[k].raw ∧ t.inp.pins[k].raw = s.inp.pins[k].raw ∧
      t.inp.pins[k].pending = none ∧ t.inp.pins[k].active = activeFlag p.inputs[k] s.inp.pins[k].raw ∧
      ((p.inputs[k].role = .window ∨ p.inputs[k].role = .boilerFault ∨ p.inputs[k].role = .supplyLow) →
        t.inp.pins[k].edges = s.inp.pins[k].edges +
          if s.inp.pins[k].active = false ∧ t.inp.pins[k].active = true then 1 else 0) ∧
      (p.inputs[k].role = .flowPulse →
        t.inp.pins[k].edges = s.inp.pins[k].edges + if countsEdge p.inputs[k].edge s.inp.pins[k].raw then 1 else 0) ∧
      (∀ j : Fin 8, j ≠ k → t.inp.pins[j] = s.inp.pins[j]) ∧
      sameBesides [.inp, .reg, .drv, .grp, .heat, .faults, .pins] s t ∧
      (p.inputs[k].role = .flowPulse →
        (¬(flowInput p = some k ∧ countsEdge p.inputs[k].edge s.inp.pins[k].raw = true) →
          t.inp = { s.inp with pins := t.inp.pins } ∧ t.heat = s.heat) ∧
        (flowInput p = some k → countsEdge p.inputs[k].edge s.inp.pins[k].raw = true → 1 ≤ p.header.flowTimeout →
          t.inp = { s.inp with
            pins := t.inp.pins, period := s.inp.capture, capture := 0,
            pulses := if s.inp.pulses < 255 then s.inp.pulses + 1 else s.inp.pulses,
            watch := min (2 * s.inp.capture) (p.header.flowTimeout * 1000), flow := t.inp.flow } ∧
          t.heat = { s.heat with flowTarget := t.heat.flowTarget, duty := t.heat.duty } ∧
          (pumpOn s.heat = false → t.inp.flow = s.inp.flow ∧ t.heat = s.heat) ∧
          (pumpOn s.heat = true → 1 ≤ s.inp.capture → t.inp.flow = ⟨false, false, decide (2 ≤ t.inp.pulses)⟩) ∧
          (pumpOn s.heat = true → s.inp.capture = 0 → ∃ v, exec .flowLate t = .next v ∧ v.inp.flow = ⟨true, false, false⟩)) ∧
        sameBesides [.inp, .heat, .pins] s t) ∧
      (p.inputs[k].role = .window → GroupsInOrder s → ∀ z : Fin 12,
        (p.zones[z].enabled = true → p.zones[z].windowMask.getLsbD k.val = true →
          t.inp.windowOpen[z] = windowCounted p t z) ∧
        (t.inp.windowOpen[z] = s.inp.windowOpen[z] →
          t.reg[z] = s.reg[z] ∧ t.inp.windowEvents[z] = s.inp.windowEvents[z]) ∧
        (t.inp.windowOpen[z] ≠ s.inp.windowOpen[z] → t.reg[z].demand = 0 ∧ t.reg[z].onTime = 0 ∧
          t.reg[z].integral = s.reg[z].integral ∧ t.reg[z].starved = s.reg[z].starved ∧
          t.reg[z].measured = s.reg[z].measured) ∧
        (s.inp.windowOpen[z] = false → t.inp.windowOpen[z] = true →
          t.reg[z].mode = .window ∧ t.reg[z].call = false ∧ t.reg[z].allowance = energisedSoFar s z ∧
          t.inp.windowEvents[z] = satInc 255 s.inp.windowEvents[z] ∧
          (isRoom p z = true → t.drv[z].request = .idle)) ∧
        (s.inp.windowOpen[z] = true → t.inp.windowOpen[z] = false →
          t.reg[z].mode = (if sensorBad s p.zones[z].sensor then .fallback else .running) ∧
          t.inp.windowEvents[z] = s.inp.windowEvents[z] ∧
          (isRoom p z = true → t.reg[z].call = s.reg[z].call ∧ (s.drv[z].request = .idle → t.drv[z] = s.drv[z])) ∧
          (isCylinder p z = true → (t.reg[z].call = true ↔
            s.reg[z].latch = true ∧ sensorBad s p.zones[z].sensor = false ∧ s.heat.cylBlock = none)))) ∧
      (p.inputs[k].role = .boilerFault →
        (t.inp.boilerFault = true ↔ ∃ j : Fin 8, p.inputs[j].role = .boilerFault ∧ t.inp.pins[j].active = true) ∧
        (t.inp.boilerFault = s.inp.boilerFault → t.heat = s.heat ∧ t.faults = s.faults) ∧
        (s.inp.boilerFault = false → t.inp.boilerFault = true → t.heat.boilerNoted = true ∧ t.heat.state = .lockout ∧
          (s.heat.state = .lockout → t.heat = { s.heat with boilerNoted := true } ∧ t.faults = s.faults) ∧
          (s.heat.state ≠ .lockout → t.heat.cause = .boiler ∧ t.pins.burn = false ∧ t.pins.pump = false ∧
            t.pins.div = false ∧ t.faults = applyArises s.faults .boilerFault 255 ∧
            t.heat.lastStop = if s.heat.state = .firing then s.clk.runSeconds else s.heat.lastStop)) ∧
        (s.inp.boilerFault = true → t.inp.boilerFault = false → t.heat.boilerNoted = false ∧
          (¬(s.heat.state = .lockout ∧ s.heat.cause = .boiler) →
            t.heat = { s.heat with boilerNoted := false } ∧ t.faults = s.faults) ∧
          (s.heat.state = .lockout → s.heat.cause = .boiler → t.heat.cause = .none ∧
            t.faults = applyEnds s.faults .boilerFault 255 ∧ (served s = none → t.heat.state = .off) ∧
            ∀ v, served s = some v → t.heat.state = if startBlock p s v = .none then .prerun else .held)) ∧
        sameBesides [.inp, .heat, .faults, .pins] s t) ∧
      (p.inputs[k].role = .supplyLow → GroupsInOrder s → ∀ g : Fin 2,
        (t.inp.supplyLow[g] = true ↔
          ∃ j : Fin 8, p.inputs[j].role = .supplyLow ∧ p.inputs[j].group = g.val ∧ t.inp.pins[j].active = true) ∧
        (∀ z : Fin 12, isRoom p z = true → zoneGroup p z = g → s.drv[z].request ≠ .waiting → t.drv[z] = s.drv[z]) ∧
        ((s.inp.supplyLow[g] = false ∨ t.inp.supplyLow[g] = true) → t.grp[g] = s.grp[g] ∧
          ∀ z : Fin 12, isRoom p z = true → zoneGroup p z = g → t.drv[z] = s.drv[z]) ∧
        (s.inp.supplyLow[g] = true → t.inp.supplyLow[g] = false →
          HeadWaits p t g) ∧
        ((∀ y : Fin 2, y ≠ g → t.inp.supplyLow[y] = s.inp.supplyLow[y]) →
          (s.inp.supplyLow[g] = false → t.inp.supplyLow[g] = true → t.faults = applyArises s.faults .supplyLow g.val) ∧
          (s.inp.supplyLow[g] = true → t.inp.supplyLow[g] = false → t.faults = applyEnds s.faults .supplyLow g.val)) ∧
        sameBesides [.inp, .drv, .grp, .heat, .faults, .pins] s t)

/-- The capture counter reaches the watch limit with PUMP on: late is set and established clears; it reaches T: no flow is set, and a
firing burner locks out with NOFLOW (R115, R170, R172, R177). -/
def Obligations.LateFlowAndNoFlow : Prop :=
  ∀ (s : State) (p : Plan), s.plan.active = some p → pumpOn s.heat = true → (flowInput p).isSome = true → Quiet s →
    (s.inp.watch ≤ s.inp.capture → s.inp.flow.noFlow = false → ∃ t, exec .flowLate s = .next t ∧
      t.inp = { s.inp with flow := ⟨true, false, false⟩ } ∧ effectiveCap t ≠ .cap0 ∧ t.heat.state = s.heat.state ∧
      sameBesides [.inp, .heat, .pins] s t) ∧
    (flowLimit p ≤ s.inp.capture → s.inp.flow.noFlow = false → ∃ t, exec .flowNoFlow s = .next t ∧
      (s.heat.state = .firing → t.heat.state = .lockout ∧ t.heat.cause = .noFlow ∧ t.heat.lastStop = s.clk.runSeconds ∧
        t.pins.burn = false ∧ t.pins.pump = false ∧ t.inp.flow = ⟨false, false, false⟩ ∧
        t.faults = applyArises s.faults .noFlow 255) ∧
      (s.heat.state ≠ .firing → t.heat.state = s.heat.state ∧ t.inp.flow = ⟨true, true, false⟩ ∧ t.faults = s.faults) ∧
      sameBesides [.inp, .heat, .faults, .pins] s t)

/-! ## Zone regulation -/

/-- The cycle start of an enabled room zone: starved flag, measured value, integral, demand, on-time, allowance, request and call; and
after a join, a replacement, a de-energisation or the departure of the head, the head of its group, if any, has neither ended nor may be
granted (R123, R125 to R133, R140, R144, R145). -/
def Obligations.RoomCycleStart : Prop :=
  ∀ (s : State) (p : Plan) (z : Fin 12), s.plan.active = some p → isRoom p z = true → cycleDue s z = true →
    s.reg[z].mode ≠ .disabled → GroupsInOrder s → Quiet s →
    let r := p.zones[z]
    let g := s.reg[z]
    let now := s.clk.runSeconds
    ∃ t, exec (.cycleStart z) s = .next t ∧ t.clk = { s.clk with cycleDue := false } ∧
      t.reg[z].mode = g.mode ∧ t.reg[z].measured = heldOf s r.sensor ∧ t.reg[z].latch = g.latch ∧
      (t.reg[z].starved = true ↔
        energisedSoFar s z < g.allowance ∨ ¬(s.heat.state = .firing ∧ served s = some .heating)) ∧
      (g.mode = .running → ∀ m, heldOf s r.sensor = some m →
        let raw := max (-256) (min 256 (s.clk.target[z] - m))
        let e := if raw.natAbs ≤ r.deadband then 0 else raw
        let rise := (e * r.ki).tdiv 16
        (t.reg[z].integral : Int) =
          max 0 (min 4080 ((g.integral : Int) + if 0 < rise ∧ t.reg[z].starved = true then 0 else rise)) ∧
        (t.reg[z].demand : Int) = max 0 (min 255 ((e * r.kp).tdiv 16 + (t.reg[z].integral / 16 : Nat)))) ∧
      (g.mode = .fallback → t.reg[z].integral = g.integral ∧ t.reg[z].demand = r.fallback) ∧
      (g.mode = .window → t.reg[z].integral = g.integral ∧ t.reg[z].demand = 0) ∧
      (let on := (t.reg[z].demand * 240 + 127) / 255
       t.reg[z].onTime = if 0 < on ∧ on < r.minOn then r.minOn else on) ∧
      t.reg[z].allowance = t.reg[z].onTime ∧
      (t.reg[z].call = true ↔
        p.header.callThreshold ≤ t.reg[z].demand ∧ (g.mode = .running ∨ g.mode = .fallback)) ∧
      t.drv[z].cycleStart = some now ∧
      t.drv[z].reqEnd = (if t.reg[z].onTime = 240 then .toCycleEnd else .at (now + t.reg[z].onTime)) ∧
      (t.reg[z].onTime = 0 → t.drv[z].request = .idle) ∧
      (0 < t.reg[z].onTime →
        (s.drv[z].request = .energised → t.drv[z].request = .energised ∧ t.drv[z].lastGrant = s.drv[z].lastGrant) ∧
        (s.drv[z].request ≠ .energised → t.drv[z].request ≠ .idle)) ∧
      ((if 0 < t.reg[z].onTime then s.drv[z].request ≠ .energised
        else s.drv[z].request = .energised ∨ s.grp[zoneGroup p z].waitList.head? = some z) → HeadWaits p t (zoneGroup p z)) ∧
      (∀ y : Fin 12, y ≠ z → t.reg[y] = s.reg[y]) ∧
      (∀ y : Fin 12, y ≠ z → zoneGroup p y ≠ zoneGroup p z → t.drv[y] = s.drv[y]) ∧
      sameBesides [.clk, .reg, .drv, .grp, .heat, .inp, .pins] s t

/-- An integral rises only at the cycle start of a zone in RUNNING that is not starved, and no step takes one above 4,080 (R129). -/
def Obligations.IntegralRisesOnlyUnstarved : Prop :=
  ∀ (c : Instr) (s t : State), exec c s = .next t →
    (∀ z : Fin 12, s.reg[z].integral < t.reg[z].integral →
      c = .cycleStart z ∧ s.reg[z].mode = .running ∧ t.reg[z].starved = false) ∧
    ((∀ z : Fin 12, s.reg[z].integral ≤ 4080) → ∀ z : Fin 12, t.reg[z].integral ≤ 4080)

/-- The cylinder zone's latch and call at its cycle start, at the cylinder timeout and at the end of the block
(R131, R134, R135, R160, R161). -/
def Obligations.CylinderLatchTimeoutAndBlock : Prop :=
  ∀ (s : State) (p : Plan), s.plan.active = some p → Quiet s →
    (∀ (z : Fin 12) (m : Int), isCylinder p z = true → cycleDue s z = true → s.reg[z].mode = .running →
      heldOf s p.zones[z].sensor = some m →
      ∃ t, exec (.cycleStart z) s = .next t ∧ t.reg[z].measured = some m ∧ t.reg[z].demand = 0 ∧ t.reg[z].onTime = 0 ∧
        (t.reg[z].latch = true ↔
          if s.reg[z].latch = true then m < s.clk.target[z]
          else m < s.clk.target[z] - (p.zones[z].hysteresis : Int) * 16) ∧
        (t.reg[z].call = true ↔ t.reg[z].latch = true ∧ s.heat.cylBlock = none) ∧
        (∀ y : Fin 12, y ≠ z → t.reg[y] = s.reg[y]) ∧ sameBesides [.clk, .reg, .heat, .inp, .pins] s t) ∧
    (served s = some .cylinder → heatingCalls p s = true → p.header.cylMax * 60 ≤ s.heat.cylTimer →
      ∃ t, exec .cylinderTimeout s = .next t ∧ t.heat.cylTimer = 0 ∧
        t.heat.cylBlock = some (s.clk.runSeconds + p.header.cylBlock * 60) ∧ Service.cylinder ∉ t.heat.inService ∧
        (∃ v, served t = some v) ∧ t.faults = applyArises s.faults .cylTimeout 255 ∧
        (∀ z, cylinderZone p = some z → t.reg[z].call = false ∧ t.reg[z].latch = s.reg[z].latch) ∧
        sameBesides [.inp, .reg, .heat, .faults, .pins] s t) ∧
    (∀ e, s.heat.cylBlock = some e → e ≤ s.clk.runSeconds →
      ∃ t, exec .cylinderBlockExpiry s = .next t ∧ t.heat.cylBlock = none ∧
        t.faults = applyEnds s.faults .cylTimeout 255 ∧
        (∀ z, cylinderZone p = some z →
          (t.reg[z].call = true ↔ s.reg[z].latch = true ∧ s.reg[z].mode = .running) ∧
          t.reg[z].latch = s.reg[z].latch) ∧
        sameBesides [.inp, .reg, .heat, .faults, .pins] s t)

/-! ## Actuator drive -/

/-- An end event de-energises its zone and a waiting request expires, each leaving the zone IDLE; inrush entries leave at their age,
and only grants of the same run second join while supply low is inactive. After an end event, the expiry of the head and an entry's leaving,
the head of the group, if any, has neither ended nor may be granted (R142, R144 to R148, R151, R153). -/
def Obligations.RequestsEndAndExpire : Prop :=
  ∀ (s : State) (p : Plan), s.plan.active = some p → GroupsInOrder s → Quiet s →
    let now := s.clk.runSeconds
    (∀ (z : Fin 12) (e : Nat), isRoom p z = true → s.drv[z].request = .energised → s.drv[z].reqEnd = .at e → e ≤ now →
      ∃ t, exec (.endEvent z) s = .next t ∧ t.drv[z].request = .idle ∧ t.drv[z].energisedTime = energisedSoFar s z ∧
        t.drv[z].lastGrant = s.drv[z].lastGrant ∧
        (let lasts := if s.drv[z].valve = .open then p.zones[z].closeTime
           else min (now - s.drv[z].moveStart) p.zones[z].closeTime
         s.drv[z].valve = .open ∨ s.drv[z].valve = .opening →
          t.drv[z].valve = (if lasts = 0 then .closed else .closing) ∧ t.drv[z].moveStart = now ∧
          t.drv[z].moveEnd = now + lasts) ∧
        HeadWaits p t (zoneGroup p z) ∧
        (∀ y : Fin 12, zoneGroup p y ≠ zoneGroup p z → t.drv[y] = s.drv[y]) ∧
        sameBesides [.drv, .grp, .heat, .inp, .pins] s t) ∧
    (∀ z : Fin 12, isRoom p z = true → s.drv[z].request = .waiting → requestEnded s z = true →
      ∃ t, exec (.waitingRequestExpiry z) s = .next t ∧ t.drv[z] = { s.drv[z] with request := .idle } ∧
        z ∉ t.grp[zoneGroup p z].waitList ∧
        (s.grp[zoneGroup p z].waitList.head? = some z → HeadWaits p t (zoneGroup p z)) ∧
        (∀ y : Fin 12, zoneGroup p y ≠ zoneGroup p z → t.drv[y] = s.drv[y]) ∧
        sameBesides [.drv, .grp, .heat, .inp, .pins] s t) ∧
    (∀ g : Fin 2, (∃ x ∈ s.grp[g].inrush, x + p.groups[g].inrushWindow ≤ now) →
      ∃ t n, exec (.inrushEntryLeaves g) s = .next t ∧
        t.grp[g].inrush =
          (s.grp[g].inrush.filter fun x => now < x + p.groups[g].inrushWindow) ++ List.replicate n now ∧
        (0 < n → t.grp[g].inrush.length ≤ p.groups[g].inrushMax ∧ s.inp.supplyLow[g] = false) ∧ HeadWaits p t g ∧
        (∀ y : Fin 12, zoneGroup p y ≠ g → t.drv[y] = s.drv[y]) ∧ sameBesides [.drv, .grp, .heat, .inp, .pins] s t)

/-- A valve reaches the end of its movement; one that enters OPEN joins the open valve count, and start permission is judged
(R151, R152, R163, R165). -/
def Obligations.ValveMovementEnds : Prop :=
  ∀ (s : State) (p : Plan) (z : Fin 12), s.plan.active = some p → s.drv[z].moveEnd ≤ s.clk.runSeconds → Quiet s →
    (s.drv[z].valve = .opening → ∃ t, exec (.movementEnd z) s = .next t ∧
      t.drv[z] = { s.drv[z] with valve := .open } ∧ (∀ y : Fin 12, y ≠ z → t.drv[y] = s.drv[y]) ∧
      openValves p t = openValves p s + (if isRoom p z = true then 1 else 0) ∧ PermissionJudged p s t ∧
      sameBesides [.drv, .heat, .inp, .pins] s t) ∧
    (s.drv[z].valve = .closing → ∃ t, exec (.movementEnd z) s = .next t ∧
      t.drv[z] = { s.drv[z] with valve := .closed } ∧ (∀ y : Fin 12, y ≠ z → t.drv[y] = s.drv[y]) ∧
      openValves p t = openValves p s ∧ sameBesides [.drv, .pins] s t)

/-- After every command an output is on exactly while an enabled room zone that owns it is ENERGISED; under a plan that the check
admits, a group's energised output count is the number of its outputs that are on (R139). -/
def Obligations.ActOutputsFollowTheRequests : Prop :=
  ∀ (c : Instr) (s t : State), exec c s = .next t →
    (t.plan.active = none → t.pins.act = 0) ∧
    ∀ p, t.plan.active = some p →
      (∀ n, n < 16 → (t.pins.act.getLsbD n = true ↔
        ∃ z : Fin 12, isRoom p z = true ∧ t.drv[z].request = .energised ∧ p.zones[z].mask.getLsbD n = true)) ∧
      (reportedViolation p = none → ∀ g : Fin 2,
        energisedCount p t g =
          ((List.range 16).filter fun n => decide (n / 8 = g.val) && t.pins.act.getLsbD n).length)

/-! ## Heat source -/

/-- The expiry of the prerun, postrun, lockout pump run and retry timers (R167, R168, R171 to R174). -/
def Obligations.HeatTimersExpire : Prop :=
  ∀ (s : State) (p : Plan) (e : Nat), s.plan.active = some p → e ≤ s.clk.runSeconds → Quiet s →
    let now := s.clk.runSeconds
    (s.heat.state = .prerun → s.heat.prerunExpiry = some e → flowEstablished s = true →
      ∃ t, exec .prerunTimerExpiry s = .next t ∧ t.heat.state = .firing ∧
        t.heat.ignitions = s.heat.ignitions ++ [now] ∧ t.heat.burnerStart = now ∧ t.heat.lastStop = s.heat.lastStop ∧
        t.pins.burn = true ∧ t.pins.pump = true ∧ t.pins.fto = t.heat.duty ∧ sameBesides [.heat, .pins] s t) ∧
    (s.heat.state = .prerun → s.heat.prerunExpiry = some e → flowEstablished s = false →
      ∃ t, exec .prerunTimerExpiry s = .next t ∧ t.heat.state = .lockout ∧ t.heat.cause = .noFlow ∧
        t.heat.retryExpiry = (if s.heat.retryCount < 3 then some (now + 900) else none) ∧
        t.heat.lastStop = s.heat.lastStop ∧ t.pins.pump = false ∧ t.pins.div = false ∧
        t.inp.flow = ⟨false, false, false⟩ ∧ t.faults = applyArises s.faults .noFlow 255 ∧
        sameBesides [.inp, .heat, .faults, .pins] s t) ∧
    (s.heat.state = .postrun → s.heat.postrunExpiry = some e →
      ∃ t, exec .postrunTimerExpiry s = .next t ∧
        (served s = none → t.heat.state = .off ∧ t.pins.pump = false ∧ t.pins.div = false) ∧
        (∀ v, served s = some v → startBlock p s v ≠ .none →
          t.heat.state = .held ∧ t.heat.hold = startBlock p s v ∧ t.pins.pump = false) ∧
        (∀ v, served s = some v → startBlock p s v = .none → t.heat.state = .prerun ∧ t.pins.pump = true ∧
          t.inp.capture = 0 ∧ t.inp.pulses = 0 ∧ t.inp.watch = flowLimit p) ∧
        sameBesides [.inp, .heat, .pins] s t) ∧
    (s.heat.state = .lockout → s.heat.pumpRunExpiry = some e →
      ∃ t, exec .lockoutPumpRunEnd s = .next t ∧ t.heat.state = .lockout ∧ t.heat.cause = s.heat.cause ∧
        t.heat.pumpRunExpiry = none ∧ t.pins.pump = false ∧ t.pins.div = false ∧ sameBesides [.inp, .heat, .pins] s t) ∧
    (s.heat.state = .lockout → s.heat.cause = .noFlow → s.heat.retryExpiry = some e →
      ∃ t, exec .retryTimerExpiry s = .next t ∧ t.heat.retryCount = s.heat.retryCount + 1 ∧
        (s.heat.boilerNoted = false → t.heat.cause = .none ∧ t.faults = applyEnds s.faults .noFlow 255 ∧
          (served s = none → t.heat.state = .off) ∧
          ∀ v, served s = some v → t.heat.state = if startBlock p s v = .none then .prerun else .held) ∧
        (s.heat.boilerNoted = true → t.heat.state = .lockout ∧ t.heat.cause = .boiler ∧
          t.faults = applyArises (applyEnds s.faults .noFlow 255) .boilerFault 255) ∧
        sameBesides [.inp, .heat, .faults, .pins] s t)

/-- The passing of min_off and of min_on, an ignition entry that leaves the log, and a firing run of 600 s
(R165, R166, R168, R169). -/
def Obligations.BurnerLimitsPass : Prop :=
  ∀ (s : State) (p : Plan), s.plan.active = some p → Quiet s →
    let now := s.clk.runSeconds
    (s.heat.lastStop + p.header.minOff * 60 ≤ now →
      ∃ t, exec .minOffPassing s = .next t ∧ PermissionJudged p s t ∧ t.heat.ignitions = s.heat.ignitions ∧
        sameBesides [.inp, .heat, .pins] s t) ∧
    ((∃ x ∈ s.heat.ignitions, x + 3600 ≤ now) →
      ∃ t, exec .ignitionEntryLeaves s = .next t ∧
        t.heat.ignitions = (s.heat.ignitions.filter fun x => now < x + 3600) ∧ PermissionJudged p s t ∧
        sameBesides [.inp, .heat, .pins] s t) ∧
    (s.heat.state = .firing → s.heat.burnerStart + p.header.minOn * 60 ≤ now →
      ∃ t, exec .minOnPassing s = .next t ∧
        ((∀ v, served s = some v → pathHolds p s v = false) →
          t.heat.state = .postrun ∧ t.heat.lastStop = now ∧
          t.heat.postrunExpiry = some (now + p.header.postrun * 60) ∧ t.heat.div = s.heat.div ∧ t.pins.burn = false ∧
          t.pins.pump = true ∧ t.pins.fto = 0) ∧
        (∀ v, served s = some v → pathHolds p s v = true → t.heat = s.heat) ∧ sameBesides [.heat, .pins] s t) ∧
    (s.heat.state = .firing → s.heat.burnerStart + 600 ≤ now →
      ∃ t, exec .firingRun600s s = .next t ∧ t.heat = { s.heat with retryCount := 0 } ∧ sameBesides [.heat, .pins] s t)

/-- The flow target and the duty are computed at R180's events. After every command under a plan they are what R179 and R180 give, where it
changed a zone's call, started the cycle of a calling room zone, changed the served service or the effective cap, or adopted the plan; this rests
on a zone with its window OPEN being in WINDOW and not calling, which every command keeps. At the expiry of the outdoor hold they are computed
with the default outdoor temperature. In FIRING without a served service they keep the values they had, as at the cycle start at which the last
service leaves. The outdoor unit's own events are in FailedAttemptsAndContentions and ValidReadingIsHeld
(R118, R120, R121, R133, R135, R136, R156, R177 to R180). -/
def Obligations.FlowTargetIsFormedAtItsEvents : Prop :=
  (∀ (c : Instr) (s t : State), WindowsSilent s → exec c s = .next t →
    WindowsSilent t ∧
    ∀ p, t.plan.active = some p →
      ((∃ z : Fin 12, t.reg[z].call ≠ s.reg[z].call) ∨
        (∃ z : Fin 12, c = .cycleStart z ∧ cycleDue s z = true ∧ isRoom p z = true ∧ t.reg[z].call = true) ∨
        served t ≠ served s ∨ effectiveCap t ≠ effectiveCap s ∨
        (c = .planCheckCompletion ∧ s.plan.check = .running ∧ t.plan.lastResult = .adopted)) →
      FlowTargetFormed p t) ∧
  (∀ (z : Fin 12) (s t : State), exec (.cycleStart z) s = .next t → s.heat.state = .firing → t.heat.state = .firing →
    served t = none → t.heat.flowTarget = s.heat.flowTarget ∧ t.heat.duty = s.heat.duty) ∧
  ∀ (s : State) (p : Plan) (x : Nat), s.plan.active = some p → s.heat.outdoorHold = some x → x + 3600 ≤ s.clk.runSeconds →
    Quiet s →
    ∃ t, exec .outdoorHoldExpiry s = .next t ∧ FlowTargetFormed p t ∧
      (∀ u, outdoorUnit p = some u → s.link.entries[u].state = .lost →
        outdoorInUse p t = p.header.defaultOutdoor * 16) ∧
      (served s = none → s.heat.state = .firing →
        t.heat.flowTarget = s.heat.flowTarget ∧ t.heat.duty = s.heat.duty) ∧
      t.heat = { s.heat with outdoorHold := none, flowTarget := t.heat.flowTarget, duty := t.heat.duty } ∧
      sameBesides [.heat, .pins] s t

/-! ## Fault list -/

/-- A reported condition that is present counts once more, up to 255, in its place and without attention; one that is not joins at the end
with count 1 and attention, or is dropped and counted while the list is full. A reported end takes the entry out, closes the list up and
raises the attention number; with no such entry it changes nothing; and a condition that arises again joins at the end with count 1. The
changes that one event hands are taken at its end: every leave first, then the joins in the order of the codes and then of the subjects
(R182 to R185). -/
def Obligations.EndedConditionsLeaveTheList : Prop :=
  (∀ (f : FaultUnit) (code : FaultCode) (subject : Nat), FaultListWf f →
    ((∀ e ∈ f.entries, e.code = code → e.subject ≠ subject) → applyEnds f code subject = f ∧
      (f.entries.length < 16 → applyArises f code subject =
        { f with entries := f.entries ++ [⟨code, subject, 1⟩], attention := f.attention + 1 }) ∧
      (f.entries.length = 16 → applyArises f code subject =
        { f with overflow := if f.overflow < 255 then f.overflow + 1 else f.overflow })) ∧
    ∀ before after e, f.entries = before ++ e :: after → e.code = code → e.subject = subject →
      applyArises f code subject = { f with entries := before ++ { e with count := min (e.count + 1) 255 } :: after } ∧
      applyEnds f code subject = { f with entries := before ++ after, attention := f.attention + 1 } ∧
      applyArises (applyEnds f code subject) code subject =
        { f with entries := before ++ after ++ [⟨code, subject, 1⟩], attention := f.attention + 2 }) ∧
  (∀ f : FaultUnit, ∃ joins : List FaultNews,
    takeNews f = { joins.foldl applyNews ((f.handed.filter fun n => n.isEnd).foldl applyNews f) with handed := [] } ∧
    joins.Perm (f.handed.filter fun n => !n.isEnd) ∧
    joins.Pairwise fun a b =>
      (newsKey a).1 < (newsKey b).1 ∨ ((newsKey a).1 = (newsKey b).1 ∧ (newsKey a).2 ≤ (newsKey b).2)) ∧
  ∀ (c : Instr) (s t : State), exec c s = .next t → t.faults.handed = []
end

