-- ==== Sys2Proof/Laws/State.lean ====
section
/-!
SUPPORT. What each block update leaves in each component of the state, one lemma per component per update; what an update of one
place of a vector leaves in the others; and frames of the form sameBesides.
-/

namespace Sys2Proof.Machine

/-! ## Block updates -/

section
variable (s : State) (x : MemoryPath)
@[simp] theorem State.setMem_mem : (s.setMem x).mem = x := rfl
@[simp] theorem State.setMem_plan : (s.setMem x).plan = s.plan := rfl
@[simp] theorem State.setMem_clk : (s.setMem x).clk = s.clk := rfl
@[simp] theorem State.setMem_req : (s.setMem x).req = s.req := rfl
@[simp] theorem State.setMem_ovr : (s.setMem x).ovr = s.ovr := rfl
@[simp] theorem State.setMem_link : (s.setMem x).link = s.link := rfl
@[simp] theorem State.setMem_inp : (s.setMem x).inp = s.inp := rfl
@[simp] theorem State.setMem_reg : (s.setMem x).reg = s.reg := rfl
@[simp] theorem State.setMem_drv : (s.setMem x).drv = s.drv := rfl
@[simp] theorem State.setMem_grp : (s.setMem x).grp = s.grp := rfl
@[simp] theorem State.setMem_heat : (s.setMem x).heat = s.heat := rfl
@[simp] theorem State.setMem_faults : (s.setMem x).faults = s.faults := rfl
@[simp] theorem State.setMem_pins : (s.setMem x).pins = s.pins := rfl
@[simp] theorem State.setMem_pending : (s.setMem x).pending = s.pending := rfl
end

section
variable (s : State) (x : PlanStore)
@[simp] theorem State.setPlan_mem : (s.setPlan x).mem = s.mem := rfl
@[simp] theorem State.setPlan_plan : (s.setPlan x).plan = x := rfl
@[simp] theorem State.setPlan_clk : (s.setPlan x).clk = s.clk := rfl
@[simp] theorem State.setPlan_req : (s.setPlan x).req = s.req := rfl
@[simp] theorem State.setPlan_ovr : (s.setPlan x).ovr = s.ovr := rfl
@[simp] theorem State.setPlan_link : (s.setPlan x).link = s.link := rfl
@[simp] theorem State.setPlan_inp : (s.setPlan x).inp = s.inp := rfl
@[simp] theorem State.setPlan_reg : (s.setPlan x).reg = s.reg := rfl
@[simp] theorem State.setPlan_drv : (s.setPlan x).drv = s.drv := rfl
@[simp] theorem State.setPlan_grp : (s.setPlan x).grp = s.grp := rfl
@[simp] theorem State.setPlan_heat : (s.setPlan x).heat = s.heat := rfl
@[simp] theorem State.setPlan_faults : (s.setPlan x).faults = s.faults := rfl
@[simp] theorem State.setPlan_pins : (s.setPlan x).pins = s.pins := rfl
@[simp] theorem State.setPlan_pending : (s.setPlan x).pending = s.pending := rfl
end

section
variable (s : State) (x : ClockUnit)
@[simp] theorem State.setClk_mem : (s.setClk x).mem = s.mem := rfl
@[simp] theorem State.setClk_plan : (s.setClk x).plan = s.plan := rfl
@[simp] theorem State.setClk_clk : (s.setClk x).clk = x := rfl
@[simp] theorem State.setClk_req : (s.setClk x).req = s.req := rfl
@[simp] theorem State.setClk_ovr : (s.setClk x).ovr = s.ovr := rfl
@[simp] theorem State.setClk_link : (s.setClk x).link = s.link := rfl
@[simp] theorem State.setClk_inp : (s.setClk x).inp = s.inp := rfl
@[simp] theorem State.setClk_reg : (s.setClk x).reg = s.reg := rfl
@[simp] theorem State.setClk_drv : (s.setClk x).drv = s.drv := rfl
@[simp] theorem State.setClk_grp : (s.setClk x).grp = s.grp := rfl
@[simp] theorem State.setClk_heat : (s.setClk x).heat = s.heat := rfl
@[simp] theorem State.setClk_faults : (s.setClk x).faults = s.faults := rfl
@[simp] theorem State.setClk_pins : (s.setClk x).pins = s.pins := rfl
@[simp] theorem State.setClk_pending : (s.setClk x).pending = s.pending := rfl
end

section
variable (s : State) (x : RequestUnit)
@[simp] theorem State.setReq_mem : (s.setReq x).mem = s.mem := rfl
@[simp] theorem State.setReq_plan : (s.setReq x).plan = s.plan := rfl
@[simp] theorem State.setReq_clk : (s.setReq x).clk = s.clk := rfl
@[simp] theorem State.setReq_req : (s.setReq x).req = x := rfl
@[simp] theorem State.setReq_ovr : (s.setReq x).ovr = s.ovr := rfl
@[simp] theorem State.setReq_link : (s.setReq x).link = s.link := rfl
@[simp] theorem State.setReq_inp : (s.setReq x).inp = s.inp := rfl
@[simp] theorem State.setReq_reg : (s.setReq x).reg = s.reg := rfl
@[simp] theorem State.setReq_drv : (s.setReq x).drv = s.drv := rfl
@[simp] theorem State.setReq_grp : (s.setReq x).grp = s.grp := rfl
@[simp] theorem State.setReq_heat : (s.setReq x).heat = s.heat := rfl
@[simp] theorem State.setReq_faults : (s.setReq x).faults = s.faults := rfl
@[simp] theorem State.setReq_pins : (s.setReq x).pins = s.pins := rfl
@[simp] theorem State.setReq_pending : (s.setReq x).pending = s.pending := rfl
end

section
variable (s : State) (x : OverrideList)
@[simp] theorem State.setOvr_mem : (s.setOvr x).mem = s.mem := rfl
@[simp] theorem State.setOvr_plan : (s.setOvr x).plan = s.plan := rfl
@[simp] theorem State.setOvr_clk : (s.setOvr x).clk = s.clk := rfl
@[simp] theorem State.setOvr_req : (s.setOvr x).req = s.req := rfl
@[simp] theorem State.setOvr_ovr : (s.setOvr x).ovr = x := rfl
@[simp] theorem State.setOvr_link : (s.setOvr x).link = s.link := rfl
@[simp] theorem State.setOvr_inp : (s.setOvr x).inp = s.inp := rfl
@[simp] theorem State.setOvr_reg : (s.setOvr x).reg = s.reg := rfl
@[simp] theorem State.setOvr_drv : (s.setOvr x).drv = s.drv := rfl
@[simp] theorem State.setOvr_grp : (s.setOvr x).grp = s.grp := rfl
@[simp] theorem State.setOvr_heat : (s.setOvr x).heat = s.heat := rfl
@[simp] theorem State.setOvr_faults : (s.setOvr x).faults = s.faults := rfl
@[simp] theorem State.setOvr_pins : (s.setOvr x).pins = s.pins := rfl
@[simp] theorem State.setOvr_pending : (s.setOvr x).pending = s.pending := rfl
end

section
variable (s : State) (x : Link)
@[simp] theorem State.setLink_mem : (s.setLink x).mem = s.mem := rfl
@[simp] theorem State.setLink_plan : (s.setLink x).plan = s.plan := rfl
@[simp] theorem State.setLink_clk : (s.setLink x).clk = s.clk := rfl
@[simp] theorem State.setLink_req : (s.setLink x).req = s.req := rfl
@[simp] theorem State.setLink_ovr : (s.setLink x).ovr = s.ovr := rfl
@[simp] theorem State.setLink_link : (s.setLink x).link = x := rfl
@[simp] theorem State.setLink_inp : (s.setLink x).inp = s.inp := rfl
@[simp] theorem State.setLink_reg : (s.setLink x).reg = s.reg := rfl
@[simp] theorem State.setLink_drv : (s.setLink x).drv = s.drv := rfl
@[simp] theorem State.setLink_grp : (s.setLink x).grp = s.grp := rfl
@[simp] theorem State.setLink_heat : (s.setLink x).heat = s.heat := rfl
@[simp] theorem State.setLink_faults : (s.setLink x).faults = s.faults := rfl
@[simp] theorem State.setLink_pins : (s.setLink x).pins = s.pins := rfl
@[simp] theorem State.setLink_pending : (s.setLink x).pending = s.pending := rfl
end

section
variable (s : State) (x : InputUnit)
@[simp] theorem State.setInp_mem : (s.setInp x).mem = s.mem := rfl
@[simp] theorem State.setInp_plan : (s.setInp x).plan = s.plan := rfl
@[simp] theorem State.setInp_clk : (s.setInp x).clk = s.clk := rfl
@[simp] theorem State.setInp_req : (s.setInp x).req = s.req := rfl
@[simp] theorem State.setInp_ovr : (s.setInp x).ovr = s.ovr := rfl
@[simp] theorem State.setInp_link : (s.setInp x).link = s.link := rfl
@[simp] theorem State.setInp_inp : (s.setInp x).inp = x := rfl
@[simp] theorem State.setInp_reg : (s.setInp x).reg = s.reg := rfl
@[simp] theorem State.setInp_drv : (s.setInp x).drv = s.drv := rfl
@[simp] theorem State.setInp_grp : (s.setInp x).grp = s.grp := rfl
@[simp] theorem State.setInp_heat : (s.setInp x).heat = s.heat := rfl
@[simp] theorem State.setInp_faults : (s.setInp x).faults = s.faults := rfl
@[simp] theorem State.setInp_pins : (s.setInp x).pins = s.pins := rfl
@[simp] theorem State.setInp_pending : (s.setInp x).pending = s.pending := rfl
end

section
variable (s : State) (x : Vector ZoneReg 12)
@[simp] theorem State.setReg_mem : (s.setReg x).mem = s.mem := rfl
@[simp] theorem State.setReg_plan : (s.setReg x).plan = s.plan := rfl
@[simp] theorem State.setReg_clk : (s.setReg x).clk = s.clk := rfl
@[simp] theorem State.setReg_req : (s.setReg x).req = s.req := rfl
@[simp] theorem State.setReg_ovr : (s.setReg x).ovr = s.ovr := rfl
@[simp] theorem State.setReg_link : (s.setReg x).link = s.link := rfl
@[simp] theorem State.setReg_inp : (s.setReg x).inp = s.inp := rfl
@[simp] theorem State.setReg_reg : (s.setReg x).reg = x := rfl
@[simp] theorem State.setReg_drv : (s.setReg x).drv = s.drv := rfl
@[simp] theorem State.setReg_grp : (s.setReg x).grp = s.grp := rfl
@[simp] theorem State.setReg_heat : (s.setReg x).heat = s.heat := rfl
@[simp] theorem State.setReg_faults : (s.setReg x).faults = s.faults := rfl
@[simp] theorem State.setReg_pins : (s.setReg x).pins = s.pins := rfl
@[simp] theorem State.setReg_pending : (s.setReg x).pending = s.pending := rfl
end

section
variable (s : State) (x : Vector ZoneDrive 12)
@[simp] theorem State.setDrv_mem : (s.setDrv x).mem = s.mem := rfl
@[simp] theorem State.setDrv_plan : (s.setDrv x).plan = s.plan := rfl
@[simp] theorem State.setDrv_clk : (s.setDrv x).clk = s.clk := rfl
@[simp] theorem State.setDrv_req : (s.setDrv x).req = s.req := rfl
@[simp] theorem State.setDrv_ovr : (s.setDrv x).ovr = s.ovr := rfl
@[simp] theorem State.setDrv_link : (s.setDrv x).link = s.link := rfl
@[simp] theorem State.setDrv_inp : (s.setDrv x).inp = s.inp := rfl
@[simp] theorem State.setDrv_reg : (s.setDrv x).reg = s.reg := rfl
@[simp] theorem State.setDrv_drv : (s.setDrv x).drv = x := rfl
@[simp] theorem State.setDrv_grp : (s.setDrv x).grp = s.grp := rfl
@[simp] theorem State.setDrv_heat : (s.setDrv x).heat = s.heat := rfl
@[simp] theorem State.setDrv_faults : (s.setDrv x).faults = s.faults := rfl
@[simp] theorem State.setDrv_pins : (s.setDrv x).pins = s.pins := rfl
@[simp] theorem State.setDrv_pending : (s.setDrv x).pending = s.pending := rfl
end

section
variable (s : State) (x : Vector SupplyGroup 2)
@[simp] theorem State.setGrp_mem : (s.setGrp x).mem = s.mem := rfl
@[simp] theorem State.setGrp_plan : (s.setGrp x).plan = s.plan := rfl
@[simp] theorem State.setGrp_clk : (s.setGrp x).clk = s.clk := rfl
@[simp] theorem State.setGrp_req : (s.setGrp x).req = s.req := rfl
@[simp] theorem State.setGrp_ovr : (s.setGrp x).ovr = s.ovr := rfl
@[simp] theorem State.setGrp_link : (s.setGrp x).link = s.link := rfl
@[simp] theorem State.setGrp_inp : (s.setGrp x).inp = s.inp := rfl
@[simp] theorem State.setGrp_reg : (s.setGrp x).reg = s.reg := rfl
@[simp] theorem State.setGrp_drv : (s.setGrp x).drv = s.drv := rfl
@[simp] theorem State.setGrp_grp : (s.setGrp x).grp = x := rfl
@[simp] theorem State.setGrp_heat : (s.setGrp x).heat = s.heat := rfl
@[simp] theorem State.setGrp_faults : (s.setGrp x).faults = s.faults := rfl
@[simp] theorem State.setGrp_pins : (s.setGrp x).pins = s.pins := rfl
@[simp] theorem State.setGrp_pending : (s.setGrp x).pending = s.pending := rfl
end

section
variable (s : State) (x : HeatSource)
@[simp] theorem State.setHeat_mem : (s.setHeat x).mem = s.mem := rfl
@[simp] theorem State.setHeat_plan : (s.setHeat x).plan = s.plan := rfl
@[simp] theorem State.setHeat_clk : (s.setHeat x).clk = s.clk := rfl
@[simp] theorem State.setHeat_req : (s.setHeat x).req = s.req := rfl
@[simp] theorem State.setHeat_ovr : (s.setHeat x).ovr = s.ovr := rfl
@[simp] theorem State.setHeat_link : (s.setHeat x).link = s.link := rfl
@[simp] theorem State.setHeat_inp : (s.setHeat x).inp = s.inp := rfl
@[simp] theorem State.setHeat_reg : (s.setHeat x).reg = s.reg := rfl
@[simp] theorem State.setHeat_drv : (s.setHeat x).drv = s.drv := rfl
@[simp] theorem State.setHeat_grp : (s.setHeat x).grp = s.grp := rfl
@[simp] theorem State.setHeat_heat : (s.setHeat x).heat = x := rfl
@[simp] theorem State.setHeat_faults : (s.setHeat x).faults = s.faults := rfl
@[simp] theorem State.setHeat_pins : (s.setHeat x).pins = s.pins := rfl
@[simp] theorem State.setHeat_pending : (s.setHeat x).pending = s.pending := rfl
end

section
variable (s : State) (x : FaultUnit)
@[simp] theorem State.setFaults_mem : (s.setFaults x).mem = s.mem := rfl
@[simp] theorem State.setFaults_plan : (s.setFaults x).plan = s.plan := rfl
@[simp] theorem State.setFaults_clk : (s.setFaults x).clk = s.clk := rfl
@[simp] theorem State.setFaults_req : (s.setFaults x).req = s.req := rfl
@[simp] theorem State.setFaults_ovr : (s.setFaults x).ovr = s.ovr := rfl
@[simp] theorem State.setFaults_link : (s.setFaults x).link = s.link := rfl
@[simp] theorem State.setFaults_inp : (s.setFaults x).inp = s.inp := rfl
@[simp] theorem State.setFaults_reg : (s.setFaults x).reg = s.reg := rfl
@[simp] theorem State.setFaults_drv : (s.setFaults x).drv = s.drv := rfl
@[simp] theorem State.setFaults_grp : (s.setFaults x).grp = s.grp := rfl
@[simp] theorem State.setFaults_heat : (s.setFaults x).heat = s.heat := rfl
@[simp] theorem State.setFaults_faults : (s.setFaults x).faults = x := rfl
@[simp] theorem State.setFaults_pins : (s.setFaults x).pins = s.pins := rfl
@[simp] theorem State.setFaults_pending : (s.setFaults x).pending = s.pending := rfl
end

section
variable (s : State) (x : Pins)
@[simp] theorem State.setPins_mem : (s.setPins x).mem = s.mem := rfl
@[simp] theorem State.setPins_plan : (s.setPins x).plan = s.plan := rfl
@[simp] theorem State.setPins_clk : (s.setPins x).clk = s.clk := rfl
@[simp] theorem State.setPins_req : (s.setPins x).req = s.req := rfl
@[simp] theorem State.setPins_ovr : (s.setPins x).ovr = s.ovr := rfl
@[simp] theorem State.setPins_link : (s.setPins x).link = s.link := rfl
@[simp] theorem State.setPins_inp : (s.setPins x).inp = s.inp := rfl
@[simp] theorem State.setPins_reg : (s.setPins x).reg = s.reg := rfl
@[simp] theorem State.setPins_drv : (s.setPins x).drv = s.drv := rfl
@[simp] theorem State.setPins_grp : (s.setPins x).grp = s.grp := rfl
@[simp] theorem State.setPins_heat : (s.setPins x).heat = s.heat := rfl
@[simp] theorem State.setPins_faults : (s.setPins x).faults = s.faults := rfl
@[simp] theorem State.setPins_pins : (s.setPins x).pins = x := rfl
@[simp] theorem State.setPins_pending : (s.setPins x).pending = s.pending := rfl
end

section
variable (s : State) (x : List Instr)
@[simp] theorem State.setPending_mem : (s.setPending x).mem = s.mem := rfl
@[simp] theorem State.setPending_plan : (s.setPending x).plan = s.plan := rfl
@[simp] theorem State.setPending_clk : (s.setPending x).clk = s.clk := rfl
@[simp] theorem State.setPending_req : (s.setPending x).req = s.req := rfl
@[simp] theorem State.setPending_ovr : (s.setPending x).ovr = s.ovr := rfl
@[simp] theorem State.setPending_link : (s.setPending x).link = s.link := rfl
@[simp] theorem State.setPending_inp : (s.setPending x).inp = s.inp := rfl
@[simp] theorem State.setPending_reg : (s.setPending x).reg = s.reg := rfl
@[simp] theorem State.setPending_drv : (s.setPending x).drv = s.drv := rfl
@[simp] theorem State.setPending_grp : (s.setPending x).grp = s.grp := rfl
@[simp] theorem State.setPending_heat : (s.setPending x).heat = s.heat := rfl
@[simp] theorem State.setPending_faults : (s.setPending x).faults = s.faults := rfl
@[simp] theorem State.setPending_pins : (s.setPending x).pins = s.pins := rfl
@[simp] theorem State.setPending_pending : (s.setPending x).pending = x := rfl
end

/-! ## Updates of one place -/

section
variable (s : State) (z : Fin 12) (f : ZoneReg → ZoneReg)
@[simp] theorem State.updReg_mem : (s.updReg z f).mem = s.mem := rfl
@[simp] theorem State.updReg_plan : (s.updReg z f).plan = s.plan := rfl
@[simp] theorem State.updReg_clk : (s.updReg z f).clk = s.clk := rfl
@[simp] theorem State.updReg_req : (s.updReg z f).req = s.req := rfl
@[simp] theorem State.updReg_ovr : (s.updReg z f).ovr = s.ovr := rfl
@[simp] theorem State.updReg_link : (s.updReg z f).link = s.link := rfl
@[simp] theorem State.updReg_inp : (s.updReg z f).inp = s.inp := rfl
@[simp] theorem State.updReg_reg : (s.updReg z f).reg = updAt s.reg z f := rfl
@[simp] theorem State.updReg_drv : (s.updReg z f).drv = s.drv := rfl
@[simp] theorem State.updReg_grp : (s.updReg z f).grp = s.grp := rfl
@[simp] theorem State.updReg_heat : (s.updReg z f).heat = s.heat := rfl
@[simp] theorem State.updReg_faults : (s.updReg z f).faults = s.faults := rfl
@[simp] theorem State.updReg_pins : (s.updReg z f).pins = s.pins := rfl
@[simp] theorem State.updReg_pending : (s.updReg z f).pending = s.pending := rfl
end

section
variable (s : State) (z : Fin 12) (f : ZoneDrive → ZoneDrive)
@[simp] theorem State.updDrv_mem : (s.updDrv z f).mem = s.mem := rfl
@[simp] theorem State.updDrv_plan : (s.updDrv z f).plan = s.plan := rfl
@[simp] theorem State.updDrv_clk : (s.updDrv z f).clk = s.clk := rfl
@[simp] theorem State.updDrv_req : (s.updDrv z f).req = s.req := rfl
@[simp] theorem State.updDrv_ovr : (s.updDrv z f).ovr = s.ovr := rfl
@[simp] theorem State.updDrv_link : (s.updDrv z f).link = s.link := rfl
@[simp] theorem State.updDrv_inp : (s.updDrv z f).inp = s.inp := rfl
@[simp] theorem State.updDrv_reg : (s.updDrv z f).reg = s.reg := rfl
@[simp] theorem State.updDrv_drv : (s.updDrv z f).drv = updAt s.drv z f := rfl
@[simp] theorem State.updDrv_grp : (s.updDrv z f).grp = s.grp := rfl
@[simp] theorem State.updDrv_heat : (s.updDrv z f).heat = s.heat := rfl
@[simp] theorem State.updDrv_faults : (s.updDrv z f).faults = s.faults := rfl
@[simp] theorem State.updDrv_pins : (s.updDrv z f).pins = s.pins := rfl
@[simp] theorem State.updDrv_pending : (s.updDrv z f).pending = s.pending := rfl
end

section
variable (s : State) (g : Fin 2) (f : SupplyGroup → SupplyGroup)
@[simp] theorem State.updGrp_mem : (s.updGrp g f).mem = s.mem := rfl
@[simp] theorem State.updGrp_plan : (s.updGrp g f).plan = s.plan := rfl
@[simp] theorem State.updGrp_clk : (s.updGrp g f).clk = s.clk := rfl
@[simp] theorem State.updGrp_req : (s.updGrp g f).req = s.req := rfl
@[simp] theorem State.updGrp_ovr : (s.updGrp g f).ovr = s.ovr := rfl
@[simp] theorem State.updGrp_link : (s.updGrp g f).link = s.link := rfl
@[simp] theorem State.updGrp_inp : (s.updGrp g f).inp = s.inp := rfl
@[simp] theorem State.updGrp_reg : (s.updGrp g f).reg = s.reg := rfl
@[simp] theorem State.updGrp_drv : (s.updGrp g f).drv = s.drv := rfl
@[simp] theorem State.updGrp_grp : (s.updGrp g f).grp = updAt s.grp g f := rfl
@[simp] theorem State.updGrp_heat : (s.updGrp g f).heat = s.heat := rfl
@[simp] theorem State.updGrp_faults : (s.updGrp g f).faults = s.faults := rfl
@[simp] theorem State.updGrp_pins : (s.updGrp g f).pins = s.pins := rfl
@[simp] theorem State.updGrp_pending : (s.updGrp g f).pending = s.pending := rfl
end

section
variable (s : State) (e : Fin 16) (f : SensorEntry → SensorEntry)
@[simp] theorem State.updEntry_mem : (s.updEntry e f).mem = s.mem := rfl
@[simp] theorem State.updEntry_plan : (s.updEntry e f).plan = s.plan := rfl
@[simp] theorem State.updEntry_clk : (s.updEntry e f).clk = s.clk := rfl
@[simp] theorem State.updEntry_req : (s.updEntry e f).req = s.req := rfl
@[simp] theorem State.updEntry_ovr : (s.updEntry e f).ovr = s.ovr := rfl
@[simp] theorem State.updEntry_link : (s.updEntry e f).link = { s.link with entries := updAt s.link.entries e f } := rfl
@[simp] theorem State.updEntry_inp : (s.updEntry e f).inp = s.inp := rfl
@[simp] theorem State.updEntry_reg : (s.updEntry e f).reg = s.reg := rfl
@[simp] theorem State.updEntry_drv : (s.updEntry e f).drv = s.drv := rfl
@[simp] theorem State.updEntry_grp : (s.updEntry e f).grp = s.grp := rfl
@[simp] theorem State.updEntry_heat : (s.updEntry e f).heat = s.heat := rfl
@[simp] theorem State.updEntry_faults : (s.updEntry e f).faults = s.faults := rfl
@[simp] theorem State.updEntry_pins : (s.updEntry e f).pins = s.pins := rfl
@[simp] theorem State.updEntry_pending : (s.updEntry e f).pending = s.pending := rfl
end

/-- A place of an updated vector, by number. -/
theorem updAt_getElem {α : Type} {n : Nat} (v : Vector α n) (i : Fin n) (f : α → α) (j : Nat) (h : j < n) :
    (updAt v i f)[j] = if i.val = j then f v[j] else v[j] := by
  by_cases e : i.val = j
  · subst e; simp [updAt]
  · simp [updAt, e]

/-- An updated place holds the update of what it held. -/
@[simp] theorem updAt_same {α : Type} {n : Nat} (v : Vector α n) (i : Fin n) (f : α → α) :
    (updAt v i f)[i.val] = f v[i.val] := by
  simp [updAt_getElem]

/-- The other places of a vector are unchanged. -/
theorem updAt_other {α : Type} {n : Nat} (v : Vector α n) (i j : Fin n) (f : α → α) (h : i ≠ j) :
    (updAt v i f)[j] = v[j] := by
  have e : i.val ≠ j.val := fun e => h (Fin.ext e)
  simp [updAt_getElem, e]

/-- A place of an updated vector. -/
theorem updAt_get {α : Type} {n : Nat} (v : Vector α n) (i j : Fin n) (f : α → α) :
    (updAt v i f)[j] = if i = j then f v[j] else v[j] := by
  simp [updAt_getElem, Fin.ext_iff]

/-- A place of a vector built from its places. -/
@[simp] theorem tabulate_getElem {α : Type} {n : Nat} (f : Fin n → α) (j : Nat) (h : j < n) : (tabulate f)[j] = f ⟨j, h⟩ := by
  simp [tabulate]

@[simp] theorem mem_allZones (z : Fin 12) : z ∈ allZones := by revert z; decide
@[simp] theorem mem_allEntries (e : Fin 16) : e ∈ allEntries := by revert e; decide
@[simp] theorem mem_allInputs (k : Fin 8) : k ∈ allInputs := by revert k; decide
@[simp] theorem mem_allGroups (g : Fin 2) : g ∈ allGroups := by revert g; decide

/-! ## Reports -/

section
variable (s : State) (n : FaultNews)
@[simp] theorem handNews_mem : (handNews n s).mem = s.mem := rfl
@[simp] theorem handNews_plan : (handNews n s).plan = s.plan := rfl
@[simp] theorem handNews_clk : (handNews n s).clk = s.clk := rfl
@[simp] theorem handNews_req : (handNews n s).req = s.req := rfl
@[simp] theorem handNews_ovr : (handNews n s).ovr = s.ovr := rfl
@[simp] theorem handNews_link : (handNews n s).link = s.link := rfl
@[simp] theorem handNews_inp : (handNews n s).inp = s.inp := rfl
@[simp] theorem handNews_reg : (handNews n s).reg = s.reg := rfl
@[simp] theorem handNews_drv : (handNews n s).drv = s.drv := rfl
@[simp] theorem handNews_grp : (handNews n s).grp = s.grp := rfl
@[simp] theorem handNews_heat : (handNews n s).heat = s.heat := rfl
@[simp] theorem handNews_pins : (handNews n s).pins = s.pins := rfl
@[simp] theorem handNews_pending : (handNews n s).pending = s.pending := rfl
end

section
variable (s : State) (c : FaultCode) (k : Nat)
@[simp] theorem report_mem : (report c k s).mem = s.mem := rfl
@[simp] theorem report_plan : (report c k s).plan = s.plan := rfl
@[simp] theorem report_clk : (report c k s).clk = s.clk := rfl
@[simp] theorem report_req : (report c k s).req = s.req := rfl
@[simp] theorem report_ovr : (report c k s).ovr = s.ovr := rfl
@[simp] theorem report_link : (report c k s).link = s.link := rfl
@[simp] theorem report_inp : (report c k s).inp = s.inp := rfl
@[simp] theorem report_reg : (report c k s).reg = s.reg := rfl
@[simp] theorem report_drv : (report c k s).drv = s.drv := rfl
@[simp] theorem report_grp : (report c k s).grp = s.grp := rfl
@[simp] theorem report_heat : (report c k s).heat = s.heat := rfl
@[simp] theorem report_pins : (report c k s).pins = s.pins := rfl
@[simp] theorem report_pending : (report c k s).pending = s.pending := rfl
end

section
variable (s : State) (c : FaultCode) (k : Nat)
@[simp] theorem reportEnd_mem : (reportEnd c k s).mem = s.mem := rfl
@[simp] theorem reportEnd_plan : (reportEnd c k s).plan = s.plan := rfl
@[simp] theorem reportEnd_clk : (reportEnd c k s).clk = s.clk := rfl
@[simp] theorem reportEnd_req : (reportEnd c k s).req = s.req := rfl
@[simp] theorem reportEnd_ovr : (reportEnd c k s).ovr = s.ovr := rfl
@[simp] theorem reportEnd_link : (reportEnd c k s).link = s.link := rfl
@[simp] theorem reportEnd_inp : (reportEnd c k s).inp = s.inp := rfl
@[simp] theorem reportEnd_reg : (reportEnd c k s).reg = s.reg := rfl
@[simp] theorem reportEnd_drv : (reportEnd c k s).drv = s.drv := rfl
@[simp] theorem reportEnd_grp : (reportEnd c k s).grp = s.grp := rfl
@[simp] theorem reportEnd_heat : (reportEnd c k s).heat = s.heat := rfl
@[simp] theorem reportEnd_pins : (reportEnd c k s).pins = s.pins := rfl
@[simp] theorem reportEnd_pending : (reportEnd c k s).pending = s.pending := rfl
end

section
variable (s : State) 
@[simp] theorem raiseAttention_mem : (raiseAttention s).mem = s.mem := rfl
@[simp] theorem raiseAttention_plan : (raiseAttention s).plan = s.plan := rfl
@[simp] theorem raiseAttention_clk : (raiseAttention s).clk = s.clk := rfl
@[simp] theorem raiseAttention_req : (raiseAttention s).req = s.req := rfl
@[simp] theorem raiseAttention_ovr : (raiseAttention s).ovr = s.ovr := rfl
@[simp] theorem raiseAttention_link : (raiseAttention s).link = s.link := rfl
@[simp] theorem raiseAttention_inp : (raiseAttention s).inp = s.inp := rfl
@[simp] theorem raiseAttention_reg : (raiseAttention s).reg = s.reg := rfl
@[simp] theorem raiseAttention_drv : (raiseAttention s).drv = s.drv := rfl
@[simp] theorem raiseAttention_grp : (raiseAttention s).grp = s.grp := rfl
@[simp] theorem raiseAttention_heat : (raiseAttention s).heat = s.heat := rfl
@[simp] theorem raiseAttention_pins : (raiseAttention s).pins = s.pins := rfl
@[simp] theorem raiseAttention_pending : (raiseAttention s).pending = s.pending := rfl
end

section
variable (s : State) (z : Fin 12) (c : Bool)
@[simp] theorem setCall_mem : (setCall z c s).mem = s.mem := rfl
@[simp] theorem setCall_plan : (setCall z c s).plan = s.plan := rfl
@[simp] theorem setCall_clk : (setCall z c s).clk = s.clk := rfl
@[simp] theorem setCall_req : (setCall z c s).req = s.req := rfl
@[simp] theorem setCall_ovr : (setCall z c s).ovr = s.ovr := rfl
@[simp] theorem setCall_link : (setCall z c s).link = s.link := rfl
@[simp] theorem setCall_inp : (setCall z c s).inp = s.inp := rfl
@[simp] theorem setCall_drv : (setCall z c s).drv = s.drv := rfl
@[simp] theorem setCall_grp : (setCall z c s).grp = s.grp := rfl
@[simp] theorem setCall_heat : (setCall z c s).heat = s.heat := rfl
@[simp] theorem setCall_faults : (setCall z c s).faults = s.faults := rfl
@[simp] theorem setCall_pins : (setCall z c s).pins = s.pins := rfl
@[simp] theorem setCall_pending : (setCall z c s).pending = s.pending := rfl
end

@[simp] theorem handNews_faults (n : FaultNews) (s : State) :
    (handNews n s).faults = { s.faults with handed := s.faults.handed ++ [n] } := rfl
@[simp] theorem report_faults (c : FaultCode) (k : Nat) (s : State) :
    (report c k s).faults = { s.faults with handed := s.faults.handed ++ [.arises c k] } := rfl
@[simp] theorem reportEnd_faults (c : FaultCode) (k : Nat) (s : State) :
    (reportEnd c k s).faults = { s.faults with handed := s.faults.handed ++ [.ends c k] } := rfl
@[simp] theorem raiseAttention_faults (s : State) :
    (raiseAttention s).faults = { s.faults with attention := s.faults.attention + 1 } := rfl
@[simp] theorem setCall_reg (s : State) (z : Fin 12) (c : Bool) :
    (setCall z c s).reg = updAt s.reg z fun r => { r with call := c } := rfl

/-! ## The end of an event -/

section
variable (s : State)
@[simp] theorem finish_mem : (finish s).mem = s.mem := rfl
@[simp] theorem finish_plan : (finish s).plan = s.plan := rfl
@[simp] theorem finish_clk : (finish s).clk = s.clk := rfl
@[simp] theorem finish_req : (finish s).req = s.req := rfl
@[simp] theorem finish_ovr : (finish s).ovr = s.ovr := rfl
@[simp] theorem finish_link : (finish s).link = s.link := rfl
@[simp] theorem finish_inp : (finish s).inp = s.inp := rfl
@[simp] theorem finish_reg : (finish s).reg = s.reg := rfl
@[simp] theorem finish_drv : (finish s).drv = s.drv := rfl
@[simp] theorem finish_grp : (finish s).grp = s.grp := rfl
@[simp] theorem finish_heat : (finish s).heat = s.heat := rfl
@[simp] theorem finish_pending : (finish s).pending = s.pending := rfl
@[simp] theorem finish_faults : (finish s).faults = takeNews s.faults := rfl
end

/-- The pins after an event are those that its state decides. -/
theorem finish_pins (s : State) : (finish s).pins = pinsOf (finish s) := rfl

/-- With nothing handed the fault list is unchanged. -/
theorem takeNews_quiet (f : FaultUnit) (h : f.handed = []) : takeNews f = f := by
  cases f; simp_all [takeNews, newsInOrder]

/-- One change handed alone is taken as it stands. -/
theorem takeNews_single (f : FaultUnit) (n : FaultNews) (h : f.handed = [n]) :
    takeNews f = { applyNews f n with handed := [] } := by
  cases n <;> simp [takeNews, newsInOrder, h, FaultNews.isEnd, insertNews]

/-! ## Frames -/

/-- A frame may list more. -/
theorem sameBesides_mono {l m : List Block} {s t : State} (h : sameBesides l s t) (sub : ∀ b, b ∈ l → b ∈ m) :
    sameBesides m s t := fun b hb => h b fun hl => hb (sub b hl)

/-- A component outside a frame's list is unchanged. -/
theorem sameBesides_get {l : List Block} {s t : State} (h : sameBesides l s t) (b : Block) (hb : b ∉ l) : sameBlock s t b :=
  h b hb

end Sys2Proof.Machine
end

