-- ==== Sys2Proof/Laws/Faults.lean ====
section
/-!
SUPPORT. What one report does to the fault list, and that the reports an event hands keep it well formed.
-/

namespace Sys2Proof.Machine

/-- An entry is the one of a code and subject exactly when it carries both. -/
theorem FaultEntry.is_iff (e : FaultEntry) (c : FaultCode) (k : Nat) : e.is c k = true ↔ e.code = c ∧ e.subject = k := by
  simp [FaultEntry.is]

/-- The well-formedness of the entries alone. -/
def EntriesWf (l : List FaultEntry) : Prop :=
  l.length ≤ 16 ∧ (l.map fun e => (e.code, e.subject)).Nodup ∧ ∀ e ∈ l, 1 ≤ e.count ∧ e.count ≤ 255

/-- A report that a condition has arisen keeps the entries well formed. -/
theorem applyArises_entries {f : FaultUnit} {c : FaultCode} {k : Nat} (h : EntriesWf f.entries) :
    EntriesWf (applyArises f c k).entries := by
  obtain ⟨h1, h2, h3⟩ := h
  unfold applyArises
  split
  · refine ⟨by simpa using h1, ?_, ?_⟩
    · rw [List.map_map]
      convert h2 using 2
      funext e
      simp only [Function.comp]
      split <;> rfl
    · intro e he
      simp only [List.mem_map] at he
      obtain ⟨d, hd, rfl⟩ := he
      have := h3 d hd
      split
      · simp only [satInc]
        split <;> omega
      · exact this
  · rename_i hp
    split
    · refine ⟨by simp; omega, ?_, ?_⟩
      · rw [List.map_append, List.nodup_append]
        refine ⟨h2, by simp, ?_⟩
        intro a ha b hb
        simp only [List.map_cons, List.map_nil, List.mem_singleton] at hb
        obtain ⟨e, he, rfl⟩ := List.mem_map.1 ha
        rintro rfl
        apply hp
        simp only [faultPresent, List.any_eq_true]
        refine ⟨e, he, (FaultEntry.is_iff e c k).2 ?_⟩
        exact ⟨congrArg Prod.fst hb, congrArg Prod.snd hb⟩
      · intro e he
        simp only [List.mem_append, List.mem_singleton] at he
        rcases he with he | rfl
        · exact h3 e he
        · exact ⟨Nat.le_refl 1, by show (1 : Nat) ≤ 255; omega⟩
    · exact ⟨h1, h2, h3⟩

/-- A report that a condition has ended keeps the entries well formed. -/
theorem applyEnds_entries {f : FaultUnit} {c : FaultCode} {k : Nat} (h : EntriesWf f.entries) :
    EntriesWf (applyEnds f c k).entries := by
  obtain ⟨h1, h2, h3⟩ := h
  unfold applyEnds
  split
  · refine ⟨Nat.le_trans (List.length_filter_le _ _) h1, ?_, ?_⟩
    · exact h2.sublist (List.Sublist.map _ List.filter_sublist)
    · intro e he
      exact h3 e (List.mem_filter.1 he).1
  · exact ⟨h1, h2, h3⟩

/-- A change keeps the entries well formed. -/
theorem applyNews_entries {f : FaultUnit} (n : FaultNews) (h : EntriesWf f.entries) :
    EntriesWf (applyNews f n).entries := by
  cases n with
  | arises c k => exact applyArises_entries h
  | ends c k => exact applyEnds_entries h

/-- Changes taken one after another keep the entries well formed. -/
theorem foldl_applyNews_entries (l : List FaultNews) (f : FaultUnit) (h : EntriesWf f.entries) :
    EntriesWf (l.foldl applyNews f).entries := by
  induction l generalizing f with
  | nil => exact h
  | cons n rest ih => exact ih _ (applyNews_entries n h)

/-- What the list has taken leaves no change waiting, and keeps the list well formed. -/
theorem takeNews_wf {f : FaultUnit} (h : EntriesWf f.entries) : FaultListWf (takeNews f) :=
  ⟨rfl, foldl_applyNews_entries _ f h⟩

/-- A code and subject are in the list after they have arisen, unless the list was full. -/
theorem applyArises_present {f : FaultUnit} {c : FaultCode} {k : Nat} (h : f.entries.length < 16) :
    faultPresent (applyArises f c k) c k = true := by
  unfold applyArises
  split
  · rename_i hp
    simp only [faultPresent, List.any_eq_true] at hp
    obtain ⟨e, he, his⟩ := hp
    simp only [faultPresent, List.any_eq_true, List.mem_map]
    refine ⟨_, ⟨e, he, rfl⟩, ?_⟩
    rw [if_pos his]
    simpa [FaultEntry.is] using his
  · simp [faultPresent, FaultEntry.is]

/-- A code and subject are not in the list after they have ended. -/
theorem applyEnds_absent (f : FaultUnit) (c : FaultCode) (k : Nat) : faultPresent (applyEnds f c k) c k = false := by
  unfold applyEnds
  split
  · simp [faultPresent]
  · rename_i hp
    simpa using hp

/-- The acknowledge number is the host's: no change moves it. -/
@[simp] theorem applyNews_ack (f : FaultUnit) (n : FaultNews) : (applyNews f n).ack = f.ack := by
  cases n <;> simp only [applyNews, applyArises, applyEnds] <;> split <;> (try split) <;> rfl

end Sys2Proof.Machine
end

