-- ==== Sys2Proof/Laws/Frames.lean ====
section
/-!
SUPPORT. What each shared operation leaves unchanged, one frame for each operation, in the order in which the operations are defined.
-/

namespace Sys2Proof.Machine

/-! ## Frames compose -/

theorem sameBlock_refl (s : State) (b : Block) : sameBlock s s b := by cases b <;> rfl

theorem sameBlock_trans {s t u : State} {b : Block} (h : sameBlock s t b) (k : sameBlock t u b) : sameBlock s u b := by
  cases b <;> simp_all [sameBlock]

/-- Nothing changes where nothing is done. -/
theorem sameBesides_refl (l : List Block) (s : State) : sameBesides l s s := fun b _ => sameBlock_refl s b

/-- Two frames of the same list compose. -/
theorem sameBesides_trans {l : List Block} {s t u : State} (h : sameBesides l s t) (k : sameBesides l t u) :
    sameBesides l s u := fun b hb => sameBlock_trans (h b hb) (k b hb)

/-- A frame with a smaller list, before or after another. -/
theorem sameBesides_step {l m : List Block} {s t u : State} (k : sameBesides m t u) (sub : ∀ b ∈ m, b ∈ l)
    (h : sameBesides l s t) : sameBesides l s u := sameBesides_trans h (sameBesides_mono k sub)

/-- Steps of a list that each keep a frame keep it together. -/
theorem sameBesides_foldl {α : Type} {l : List Block} (f : State → α → State) (h : ∀ s a, sameBesides l s (f s a))
    (as : List α) (s : State) : sameBesides l s (as.foldl f s) := by
  induction as generalizing s with
  | nil => exact sameBesides_refl l s
  | cons a rest ih => exact sameBesides_trans (h s a) (ih (f s a))

section
variable (s : State)
theorem setMem_frame (x : MemoryPath) : sameBesides [.mem] s (s.setMem x) := by intro b hb; cases b <;> first | rfl | simp at hb
theorem setPlan_frame (x : PlanStore) : sameBesides [.plan] s (s.setPlan x) := by intro b hb; cases b <;> first | rfl | simp at hb
theorem setClk_frame (x : ClockUnit) : sameBesides [.clk] s (s.setClk x) := by intro b hb; cases b <;> first | rfl | simp at hb
theorem setReq_frame (x : RequestUnit) : sameBesides [.req] s (s.setReq x) := by intro b hb; cases b <;> first | rfl | simp at hb
theorem setOvr_frame (x : OverrideList) : sameBesides [.ovr] s (s.setOvr x) := by intro b hb; cases b <;> first | rfl | simp at hb
theorem setLink_frame (x : Link) : sameBesides [.link] s (s.setLink x) := by intro b hb; cases b <;> first | rfl | simp at hb
theorem setInp_frame (x : InputUnit) : sameBesides [.inp] s (s.setInp x) := by intro b hb; cases b <;> first | rfl | simp at hb
theorem setReg_frame (x : Vector ZoneReg 12) : sameBesides [.reg] s (s.setReg x) := by
  intro b hb; cases b <;> first | rfl | simp at hb
theorem setDrv_frame (x : Vector ZoneDrive 12) : sameBesides [.drv] s (s.setDrv x) := by
  intro b hb; cases b <;> first | rfl | simp at hb
theorem setGrp_frame (x : Vector SupplyGroup 2) : sameBesides [.grp] s (s.setGrp x) := by
  intro b hb; cases b <;> first | rfl | simp at hb
theorem setHeat_frame (x : HeatSource) : sameBesides [.heat] s (s.setHeat x) := by intro b hb; cases b <;> first | rfl | simp at hb
theorem setFaults_frame (x : FaultUnit) : sameBesides [.faults] s (s.setFaults x) := by
  intro b hb; cases b <;> first | rfl | simp at hb
theorem updReg_frame (z : Fin 12) (f : ZoneReg → ZoneReg) : sameBesides [.reg] s (s.updReg z f) := setReg_frame s _
theorem updDrv_frame (z : Fin 12) (f : ZoneDrive → ZoneDrive) : sameBesides [.drv] s (s.updDrv z f) := setDrv_frame s _
theorem updGrp_frame (g : Fin 2) (f : SupplyGroup → SupplyGroup) : sameBesides [.grp] s (s.updGrp g f) := setGrp_frame s _
theorem updEntry_frame (e : Fin 16) (f : SensorEntry → SensorEntry) : sameBesides [.link] s (s.updEntry e f) :=
  setLink_frame s _
theorem report_frame (c : FaultCode) (k : Nat) : sameBesides [.faults] s (report c k s) := setFaults_frame s _
theorem reportEnd_frame (c : FaultCode) (k : Nat) : sameBesides [.faults] s (reportEnd c k s) := setFaults_frame s _
theorem raiseAttention_frame : sameBesides [.faults] s (raiseAttention s) := setFaults_frame s _
theorem setCall_frame (z : Fin 12) (c : Bool) : sameBesides [.reg] s (setCall z c s) := setReg_frame s _
/-- The end of an event changes the fault list and the pins only. -/
theorem finish_frame : sameBesides [.faults, .pins] s (finish s) := by intro b hb; cases b <;> first | rfl | simp at hb
end

/-- The end of an event that hands nothing leaves the fault list as it was. -/
theorem finish_quiet {l : List Block} {s t : State} (h : sameBesides l s t) (quiet : Quiet s) (hf : Block.faults ∉ l)
    (hp : Block.pins ∈ l) : sameBesides l s (finish t) := by
  intro b hb
  by_cases e : b = .faults
  · subst e
    have k : t.faults = s.faults := h .faults hf
    show (finish t).faults = s.faults
    rw [finish_faults, takeNews_quiet _ (by rw [k]; exact quiet), k]
  · refine sameBlock_trans (h b hb) (finish_frame t b ?_)
    simp only [List.mem_cons, List.not_mem_nil, or_false, not_or]
    exact ⟨e, fun q => hb (q ▸ hp)⟩

/-- The end of an event, where the frame lists the fault list and the pins. -/
theorem finish_listed {l : List Block} {s t : State} (h : sameBesides l s t) (hf : Block.faults ∈ l) (hp : Block.pins ∈ l) :
    sameBesides l s (finish t) :=
  sameBesides_step (finish_frame t) (by simp [hf, hp]) h

/-! ## Schedule and time -/

theorem decideTargets_frame (s : State) : sameBesides [.clk] s (decideTargets s) := by
  unfold decideTargets; split
  · exact sameBesides_refl _ _
  · exact setClk_frame s _

theorem evaluateSchedule_frame (s : State) : sameBesides [.clk] s (evaluateSchedule s) := by
  unfold evaluateSchedule; split
  · exact sameBesides_refl _ _
  · exact sameBesides_trans (setClk_frame s _) (decideTargets_frame _)

theorem changeOverrides_frame (o : OverrideList) (s : State) : sameBesides [.ovr, .clk] s (changeOverrides o s) :=
  sameBesides_step (decideTargets_frame _) (by decide) (sameBesides_mono (setOvr_frame s o) (by decide))

theorem ageOverrides_frame (s : State) : sameBesides [.ovr, .clk] s (ageOverrides s) :=
  sameBesides_step (changeOverrides_frame _ _) (by decide) (sameBesides_mono (setClk_frame s _) (by decide))

/-! ## Heat source -/

theorem recompute_frame (p : Plan) (s : State) : sameBesides [.heat] s (recompute p s) := by
  unfold recompute; split
  · exact setHeat_frame s _
  · split
    · exact sameBesides_refl _ _
    · exact setHeat_frame s _

theorem move_frame (p : Plan) (h : HeatSource) (s : State) : sameBesides [.heat, .inp] s (move p h s) := by
  have k : sameBesides [.heat, .inp] s ((s.setHeat h).setInp (pumpEdge p (pumpOn s.heat) (pumpOn h) s.inp)) :=
    sameBesides_step (setInp_frame _ _) (by decide) (sameBesides_mono (setHeat_frame s h) (by decide))
  unfold move; simp only; split
  · exact sameBesides_step (recompute_frame p _) (by decide) k
  · exact k

theorem toOff_frame (p : Plan) (s : State) : sameBesides [.heat, .inp] s (toOff p s) := move_frame p _ s
theorem toHeld_frame (p : Plan) (v : Service) (r : HoldReason) (s : State) : sameBesides [.heat, .inp] s (toHeld p v r s) :=
  move_frame p _ s
theorem toPrerun_frame (p : Plan) (v : Service) (s : State) : sameBesides [.heat, .inp] s (toPrerun p v s) := move_frame p _ s
theorem toFiring_frame (p : Plan) (s : State) : sameBesides [.heat, .inp] s (toFiring p s) := move_frame p _ s
theorem toPostrun_frame (p : Plan) (s : State) : sameBesides [.heat, .inp] s (toPostrun p s) := move_frame p _ s

theorem reportCause_frame (c : LockoutCause) (s : State) : sameBesides [.faults] s (reportCause c s) := by
  unfold reportCause; split
  · exact report_frame s _ _
  · exact sameBesides_refl _ _

theorem endCause_frame (c : LockoutCause) (s : State) : sameBesides [.faults] s (endCause c s) := by
  unfold endCause; split
  · exact reportEnd_frame s _ _
  · exact sameBesides_refl _ _

theorem toLockout_frame (p : Plan) (c : LockoutCause) (s : State) :
    sameBesides [.heat, .inp, .faults] s (toLockout p c s) :=
  sameBesides_step (reportCause_frame c _) (by decide) (sameBesides_mono (move_frame p _ s) (by decide))

theorem judge_frame (p : Plan) (s : State) : sameBesides [.heat, .inp] s (judge p s) := by
  unfold judge judgeServed judgeIdle
  simp only
  repeat' split
  all_goals first
    | exact sameBesides_refl _ _
    | exact move_frame p _ s

theorem followDiv_frame (p : Plan) (s : State) : sameBesides [.heat] s (followDiv p s) := by
  unfold followDiv; split
  all_goals first | exact sameBesides_refl _ _ | exact setHeat_frame s _

theorem setInService_frame (l : List Service) (s : State) : sameBesides [.heat] s (setInService l s) := setHeat_frame s _

theorem serviceEvent_frame (notice : Bool) (p : Plan) (s : State) : sameBesides [.heat, .inp] s (serviceEvent notice p s) := by
  have k : sameBesides [.heat, .inp] s (judge p (followDiv p (setInService (nextInService p s) s))) :=
    sameBesides_step (judge_frame p _) (by decide) (sameBesides_step (followDiv_frame p _) (by decide)
      (sameBesides_mono (setInService_frame _ s) (by decide)))
  unfold serviceEvent; simp only; split
  · exact sameBesides_step (recompute_frame p _) (by decide) k
  · exact k

theorem callNotice_frame (s : State) : sameBesides [.heat, .inp] s (callNotice s) := by
  unfold callNotice; split
  · exact sameBesides_refl _ _
  · exact serviceEvent_frame _ _ s

theorem valveNotice_frame (s : State) : sameBesides [.heat, .inp] s (valveNotice s) := by
  unfold valveNotice; split
  · exact sameBesides_refl _ _
  · exact judge_frame _ s

theorem judgeFrost_frame (p : Plan) (s : State) : sameBesides [.heat, .inp] s (judgeFrost p s) := by
  unfold judgeFrost; simp only; split
  · exact sameBesides_refl _ _
  · exact sameBesides_step (serviceEvent_frame _ p _) (by decide) (sameBesides_mono (setHeat_frame s _) (by decide))

theorem judgeOverheat_frame (p : Plan) (x : Int) (s : State) :
    sameBesides [.heat, .inp, .faults] s (judgeOverheat p x s) := by
  unfold judgeOverheat; split
  · exact toLockout_frame p _ s
  · exact sameBesides_refl _ _

theorem applyBand_frame (p : Plan) (band : Nat) (s : State) : sameBesides [.heat, .inp] s (applyBand p band s) := by
  have a : sameBesides [.heat, .inp] s (s.setHeat { s.heat with cap := capAfter s.heat.cap band }) :=
    sameBesides_mono (setHeat_frame s _) (by decide)
  unfold applyBand; simp only
  repeat' split
  all_goals first
    | exact a
    | exact sameBesides_step (recompute_frame p _) (by decide) a
    | exact sameBesides_trans a (toPostrun_frame p _)
    | exact sameBesides_trans a (judge_frame p _)
    | exact sameBesides_trans (sameBesides_step (recompute_frame p _) (by decide) a) (toPostrun_frame p _)
    | exact sameBesides_trans (sameBesides_step (recompute_frame p _) (by decide) a) (judge_frame p _)
    | exact sameBesides_trans (sameBesides_trans a (toPostrun_frame p _)) (judge_frame p _)
    | exact sameBesides_trans (sameBesides_trans (sameBesides_step (recompute_frame p _) (by decide) a)
        (toPostrun_frame p _)) (judge_frame p _)

theorem pipeReading_frame (p : Plan) (x : Int) (band : Nat) (s : State) :
    sameBesides [.heat, .inp, .faults] s (pipeReading p x band s) :=
  sameBesides_step (judgeFrost_frame p _) (by decide) (sameBesides_step (applyBand_frame p band _) (by decide)
    (judgeOverheat_frame p x s))

theorem stopWithoutPipe_frame (p : Plan) (s : State) : sameBesides [.heat, .inp] s (stopWithoutPipe p s) := by
  unfold stopWithoutPipe; split
  · exact toPostrun_frame p s
  · exact sameBesides_refl _ _

theorem pipeStateChange_frame (p : Plan) (s : State) : sameBesides [.heat, .inp] s (pipeStateChange p s) :=
  sameBesides_trans (sameBesides_trans (stopWithoutPipe_frame p s) (judgeFrost_frame p _)) (judge_frame p _)

theorem outdoorNotice_frame (p : Plan) (b : Bool) (s : State) : sameBesides [.heat] s (outdoorNotice p b s) :=
  sameBesides_trans (setHeat_frame s _) (recompute_frame p _)

theorem setFlow_frame (p : Plan) (f : FlowStates) (s : State) : sameBesides [.heat, .inp, .faults] s (setFlow p f s) := by
  have a : sameBesides [.heat, .inp, .faults] s (s.setInp { s.inp with flow := f }) :=
    sameBesides_mono (setInp_frame s _) (by decide)
  unfold setFlow; simp only
  repeat' split
  all_goals first
    | exact sameBesides_refl _ _
    | exact a
    | exact sameBesides_step (recompute_frame p _) (by decide) a
    | exact sameBesides_trans a (toLockout_frame p _ _)
    | exact sameBesides_trans (sameBesides_step (recompute_frame p _) (by decide) a) (toLockout_frame p _ _)

theorem endLockout_frame (p : Plan) (s : State) : sameBesides [.heat, .inp, .faults] s (endLockout p s) := by
  have a : sameBesides [.heat, .inp, .faults] s (move p (closeLockout s) (endCause s.heat.cause s)) :=
    sameBesides_step (move_frame p _ _) (by decide) (sameBesides_mono (endCause_frame _ s) (by decide))
  unfold endLockout; simp only; split
  · exact sameBesides_step (report_frame _ _ _) (by decide) a
  · exact sameBesides_step (judge_frame p _) (by decide) a

theorem leaveLockout_frame (s : State) : sameBesides [.heat, .inp, .faults] s (leaveLockout s) := by
  have a : sameBesides [.heat, .inp, .faults] s ((endCause s.heat.cause s).setHeat (closeLockout s)) :=
    sameBesides_step (setHeat_frame _ _) (by decide) (sameBesides_mono (endCause_frame _ s) (by decide))
  unfold leaveLockout; split
  · exact endLockout_frame _ s
  · simp only; split
    · exact sameBesides_step (report_frame _ _ _) (by decide) a
    · exact a

theorem boilerNotice_frame (p : Plan) (active : Bool) (s : State) :
    sameBesides [.heat, .inp, .faults] s (boilerNotice p active s) := by
  have a : ∀ n, sameBesides [.heat, .inp, .faults] s (s.setHeat { s.heat with boilerNoted := n }) := fun n =>
    sameBesides_mono (setHeat_frame s _) (by decide)
  unfold boilerNotice boilerActive boilerInactive; simp only
  repeat' split
  all_goals first
    | exact a _
    | exact sameBesides_trans (a _) (toLockout_frame p _ _)
    | exact sameBesides_trans (a _) (endLockout_frame p _)

theorem resumeLockout_frame (s : State) : sameBesides [.heat, .faults] s (resumeLockout s) := by
  unfold resumeLockout; split
  · exact sameBesides_refl _ _
  · exact sameBesides_step (reportCause_frame _ _) (by decide) (sameBesides_mono (setHeat_frame s _) (by decide))

theorem renewCylinderCall_frame (z : Fin 12) (s : State) : sameBesides [.reg, .heat, .inp] s (renewCylinderCall z s) := by
  unfold renewCylinderCall; simp only; split
  · exact sameBesides_refl _ _
  · exact sameBesides_step (callNotice_frame _) (by decide) (sameBesides_mono (setCall_frame s _ _) (by decide))

theorem cylinderBlockNotice_frame (p : Plan) (s : State) : sameBesides [.reg, .heat, .inp] s (cylinderBlockNotice p s) := by
  unfold cylinderBlockNotice; split
  · exact renewCylinderCall_frame _ s
  · exact sameBesides_refl _ _

theorem takeCylinderTimeout_frame (p : Plan) (s : State) :
    sameBesides [.reg, .heat, .inp, .faults] s (takeCylinderTimeout p s) :=
  sameBesides_step (cylinderBlockNotice_frame p _) (by decide) (sameBesides_step (serviceEvent_frame _ p _) (by decide)
    (sameBesides_step (report_frame _ _ _) (by decide) (sameBesides_mono (setHeat_frame s _) (by decide))))

/-! ## Actuator drive -/

theorem deenergiseRaw_frame (r : ZoneRec) (q : RequestState) (z : Fin 12) (s : State) :
    sameBesides [.drv] s (deenergiseRaw r q z s) := updDrv_frame s z _

theorem energiseRaw_frame (p : Plan) (z : Fin 12) (s : State) : sameBesides [.drv, .grp] s (energiseRaw p z s) :=
  sameBesides_step (updGrp_frame _ _ _) (by decide) (sameBesides_mono (updDrv_frame s z _) (by decide))

theorem withValveNotice_frame {l : List Block} (z : Fin 12) (f : State → State) (s : State) (h : sameBesides l s (f s))
    (hh : Block.heat ∈ l) (hi : Block.inp ∈ l) : sameBesides l s (withValveNotice z f s) := by
  unfold withValveNotice; simp only; split
  · exact sameBesides_step (valveNotice_frame _) (by simp [hh, hi]) h
  · exact h

theorem leaveWaitList_frame (g : Fin 2) (z : Fin 12) (s : State) : sameBesides [.grp] s (leaveWaitList g z s) := updGrp_frame s g _
theorem joinWaitList_frame (p : Plan) (g : Fin 2) (z : Fin 12) (s : State) : sameBesides [.grp] s (joinWaitList p g z s) :=
  updGrp_frame s g _
theorem dropWaiting_frame (g : Fin 2) (z : Fin 12) (s : State) : sameBesides [.drv, .grp] s (dropWaiting g z s) :=
  sameBesides_step (updDrv_frame _ _ _) (by decide) (sameBesides_mono (leaveWaitList_frame g z s) (by decide))

theorem grant_frame (p : Plan) (g : Fin 2) (z : Fin 12) (s : State) :
    sameBesides [.drv, .grp, .heat, .inp] s (grant p g z s) :=
  sameBesides_trans (sameBesides_mono (leaveWaitList_frame g z s) (by decide))
    (withValveNotice_frame z _ _ (sameBesides_mono (energiseRaw_frame p z _) (by decide)) (by decide) (by decide))

theorem tryHeads_frame (p : Plan) (g : Fin 2) (fuel : Nat) (s : State) :
    sameBesides [.drv, .grp, .heat, .inp] s (tryHeads p g fuel s) := by
  induction fuel generalizing s with
  | zero => exact sameBesides_refl _ _
  | succ n ih =>
    unfold tryHeads
    repeat' split
    all_goals first
      | exact sameBesides_refl _ _
      | exact sameBesides_trans (sameBesides_mono (dropWaiting_frame g _ s) (by decide)) (ih _)
      | exact sameBesides_trans (grant_frame p g _ s) (ih _)

theorem arbiterTry_frame (p : Plan) (g : Fin 2) (s : State) :
    sameBesides [.drv, .grp, .heat, .inp] s (arbiterTry p g s) := tryHeads_frame p g _ s

/-- The tries at the end of an adoption change the drives and groups, and through their valve notices the heat source (R144, R149). -/
theorem adoptionTries_frame (p : Plan) (s : State) : sameBesides [.drv, .grp, .heat, .inp] s (adoptionTries p s) :=
  sameBesides_foldl _ (fun t g => arbiterTry_frame p g t) _ s

theorem deenergise_frame (p : Plan) (z : Fin 12) (s : State) : sameBesides [.drv, .grp, .heat, .inp] s (deenergise p z s) :=
  sameBesides_trans (withValveNotice_frame z _ s (sameBesides_mono (deenergiseRaw_frame _ _ z s) (by decide)) (by decide)
    (by decide)) (arbiterTry_frame p _ _)

theorem depart_frame (p : Plan) (z : Fin 12) (s : State) : sameBesides [.drv, .grp, .heat, .inp] s (depart p z s) := by
  unfold depart; simp only; split
  · exact sameBesides_trans (sameBesides_mono (dropWaiting_frame _ z s) (by decide)) (arbiterTry_frame p _ _)
  · exact sameBesides_mono (dropWaiting_frame _ z s) (by decide)

theorem await_frame (p : Plan) (z : Fin 12) (s : State) : sameBesides [.drv, .grp, .heat, .inp] s (await p z s) :=
  sameBesides_trans (sameBesides_step (joinWaitList_frame p _ z _) (by decide)
    (sameBesides_mono (updDrv_frame s z _) (by decide))) (arbiterTry_frame p _ _)

theorem actuatorRequest_frame (p : Plan) (z : Fin 12) (on : Nat) (s : State) :
    sameBesides [.drv, .grp, .heat, .inp] s (actuatorRequest p z on s) := by
  unfold actuatorRequest; simp only
  generalize hu : s.updDrv z _ = u
  have a : sameBesides [.drv, .grp, .heat, .inp] s u := hu ▸ sameBesides_mono (updDrv_frame s z _) (by decide)
  split
  · exact a
  · exact sameBesides_trans a (depart_frame p z _)
  · exact sameBesides_trans a (deenergise_frame p z _)
  · exact a
  · exact sameBesides_trans a (await_frame p z _)
  · exact sameBesides_trans a (await_frame p z _)

theorem withdraw_frame (p : Plan) (z : Fin 12) (s : State) : sameBesides [.drv, .grp, .heat, .inp] s (withdraw p z s) := by
  unfold withdraw; split
  · exact sameBesides_refl _ _
  · exact depart_frame p z s
  · exact deenergise_frame p z s

/-! ## Zone regulation -/

theorem setMode_frame (z : Fin 12) (m : ZoneMode) (s : State) : sameBesides [.reg, .faults] s (setMode z m s) := by
  have a : sameBesides [.reg, .faults] s (s.updReg z fun g => { g with mode := m }) :=
    sameBesides_mono (updReg_frame s z _) (by decide)
  unfold setMode; simp only
  repeat' split
  all_goals first
    | exact a
    | exact sameBesides_step (report_frame _ _ _) (by decide) a
    | exact sameBesides_step (reportEnd_frame _ _ _) (by decide) a

theorem settleStarved_frame (z : Fin 12) (s : State) : sameBesides [.reg, .drv] s (settleStarved z s) :=
  sameBesides_step (updDrv_frame _ _ _) (by decide) (sameBesides_mono (updReg_frame s z _) (by decide))

theorem computeDemand_frame (p : Plan) (z : Fin 12) (s : State) : sameBesides [.reg] s (computeDemand p z s) := updReg_frame s z _

theorem judgeRoomCall_frame (p : Plan) (z : Fin 12) (s : State) :
    sameBesides [.reg, .heat, .inp] s (judgeRoomCall p z s) := by
  unfold judgeRoomCall; simp only; split
  · exact sameBesides_step (callNotice_frame _) (by decide) (sameBesides_mono (setCall_frame s z _) (by decide))
  · exact sameBesides_mono (setCall_frame s z _) (by decide)

theorem roomCycle_frame (p : Plan) (z : Fin 12) (s : State) :
    sameBesides [.reg, .drv, .grp, .heat, .inp] s (roomCycle p z s) := by
  unfold roomCycle; simp only
  refine sameBesides_step (judgeRoomCall_frame p z _) (by decide) (sameBesides_step (actuatorRequest_frame p z _ _) (by decide)
    (sameBesides_step (computeDemand_frame p z _) (by decide) (sameBesides_mono (settleStarved_frame z s) (by decide))))

theorem cylinderCycle_frame (p : Plan) (z : Fin 12) (s : State) : sameBesides [.reg, .heat, .inp] s (cylinderCycle p z s) :=
  sameBesides_step (renewCylinderCall_frame z _) (by decide) (sameBesides_mono (updReg_frame s z _) (by decide))

theorem openRegulator_frame (z : Fin 12) (s : State) : sameBesides [.reg, .faults] s (openRegulator z s) :=
  sameBesides_step (updReg_frame _ _ _) (by decide) (setMode_frame z _ s)

theorem windowOpenEvent_frame (p : Plan) (z : Fin 12) (s : State) :
    sameBesides [.reg, .drv, .grp, .heat, .inp, .faults] s (windowOpenEvent p z s) := by
  have a : sameBesides [.reg, .drv, .grp, .heat, .inp, .faults] s (openRegulator z s) :=
    sameBesides_mono (openRegulator_frame z s) (by decide)
  have b := sameBesides_step (withdraw_frame p z (openRegulator z s)) (by decide) a
  unfold windowOpenEvent; simp only
  repeat' split
  all_goals first
    | exact a
    | exact b
    | exact sameBesides_step (callNotice_frame _) (by decide) a
    | exact sameBesides_step (callNotice_frame _) (by decide) b

theorem windowClosedEvent_frame (p : Plan) (z : Fin 12) (s : State) :
    sameBesides [.reg, .heat, .inp, .faults] s (windowClosedEvent p z s) := by
  unfold windowClosedEvent; simp only; split
  · exact sameBesides_step (renewCylinderCall_frame z _) (by decide) (sameBesides_step (setMode_frame z _ _) (by decide)
      (sameBesides_mono (updReg_frame s z _) (by decide)))
  · exact sameBesides_step (setMode_frame z _ _) (by decide) (sameBesides_mono (updReg_frame s z _) (by decide))

theorem sensorMode_frame (p : Plan) (z : Fin 12) (s : State) : sameBesides [.reg, .faults] s (sensorMode p z s) := by
  unfold sensorMode; simp only; split
  · exact sameBesides_step (setMode_frame z _ _) (by decide) (sameBesides_mono (updReg_frame s z _) (by decide))
  · exact setMode_frame z _ s
  · exact sameBesides_refl _ _

theorem sensorNotice_frame (p : Plan) (z : Fin 12) (s : State) :
    sameBesides [.reg, .heat, .inp, .faults] s (sensorNotice p z s) := by
  unfold sensorNotice; simp only; split
  · exact sameBesides_step (renewCylinderCall_frame z _) (by decide) (sameBesides_mono (sensorMode_frame p z s) (by decide))
  · exact sameBesides_mono (sensorMode_frame p z s) (by decide)

/-! ## Inputs -/

theorem judgeWindow_frame (p : Plan) (s : State) (z : Fin 12) :
    sameBesides [.inp, .reg, .drv, .grp, .heat, .faults] s (judgeWindow p s z) := by
  unfold judgeWindow; simp only
  repeat' split
  · exact sameBesides_refl _ _
  · exact sameBesides_step (windowOpenEvent_frame p z _) (by decide) (sameBesides_step (setInp_frame _ _) (by decide)
      (sameBesides_mono (setInp_frame s _) (by decide)))
  · exact sameBesides_step (windowClosedEvent_frame p z _) (by decide) (sameBesides_mono (setInp_frame s _) (by decide))

theorem judgeBoiler_frame (p : Plan) (s : State) : sameBesides [.heat, .inp, .faults] s (judgeBoiler p s) := by
  unfold judgeBoiler; simp only; split
  · exact sameBesides_refl _ _
  · exact sameBesides_trans (sameBesides_mono (setInp_frame s _) (by decide)) (boilerNotice_frame p _ _)

theorem judgeSupply_frame (p : Plan) (g : Fin 2) (s : State) :
    sameBesides [.inp, .drv, .grp, .heat, .faults] s (judgeSupply p g s) := by
  have a : ∀ c, sameBesides [.inp, .drv, .grp, .heat, .faults] s
      (s.setInp { s.inp with supplyLow := updAt s.inp.supplyLow g fun _ => c }) := fun c =>
    sameBesides_mono (setInp_frame s _) (by decide)
  unfold judgeSupply; simp only
  repeat' split
  · exact sameBesides_refl _ _
  · exact sameBesides_step (report_frame _ _ _) (by decide) (a _)
  · exact sameBesides_step (arbiterTry_frame p g _) (by decide) (sameBesides_step (reportEnd_frame _ _ _) (by decide) (a _))

theorem judgeFlow_frame (p : Plan) (s : State) : sameBesides [.heat, .inp, .faults] s (judgeFlow p s) := by
  unfold judgeFlow; split
  · exact setFlow_frame p _ s
  · exact sameBesides_refl _ _

theorem sampleEvent_frame (levels : Byte) (s : State) : sameBesides [.heat, .inp, .faults] s (sampleEvent levels s) := by
  unfold sampleEvent; simp only
  repeat' split
  · exact sameBesides_refl _ _
  · exact sameBesides_mono (setInp_frame s _) (by decide)
  · exact sameBesides_trans (sameBesides_mono (setInp_frame s _) (by decide)) (judgeFlow_frame _ _)

theorem applyRole_frame (p : Plan) (k : Fin 8) (s : State) :
    sameBesides [.inp, .reg, .drv, .grp, .heat, .faults] s (applyRole p k s) := by
  unfold applyRole
  repeat' split
  · exact sameBesides_foldl _ (judgeWindow_frame p) _ s
  · exact sameBesides_mono (judgeBoiler_frame p s) (by decide)
  · exact sameBesides_mono (sameBesides_trans (judgeSupply_frame p 0 s) (judgeSupply_frame p 1 _)) (by decide)
  · exact sameBesides_mono (sameBesides_trans (sameBesides_mono (setInp_frame s _) (by decide)) (judgeFlow_frame p _))
      (by decide)
  all_goals exact sameBesides_refl _ _

theorem debouncedChange_frame (k : Fin 8) (s : State) :
    sameBesides [.inp, .reg, .drv, .grp, .heat, .faults] s (debouncedChange k s) := by
  unfold debouncedChange
  repeat' split
  · exact sameBesides_refl _ _
  · exact sameBesides_trans (sameBesides_mono (setInp_frame s _) (by decide)) (applyRole_frame _ k _)
  · exact sameBesides_refl _ _

/-! ## Sensor link -/

theorem startTransaction_frame (p : Plan) (e : Fin 16) (c : LinkCommand) (s : State) :
    sameBesides [.link] s (startTransaction p e c s) := by
  unfold startTransaction; simp only; split
  · exact setLink_frame s _
  · exact sameBesides_trans (updEntry_frame s e _) (setLink_frame _ _)

theorem choose_frame (p : Plan) (s : State) : sameBesides [.link] s (choose p s) := by
  unfold choose pollRotation poll
  repeat' split
  all_goals first
    | exact sameBesides_refl _ _
    | exact startTransaction_frame p _ _ s
    | exact sameBesides_trans (setLink_frame s _) (startTransaction_frame p _ _ _)

theorem setMark_frame (s : State) : sameBesides [.link] s (setMark s) := setLink_frame s _

theorem handOver_frame (p : Plan) (e : Fin 16) (old : SensorState) (reading : Option (Int × Nat)) (s : State) :
    sameBesides [.reg, .heat, .inp, .faults] s (handOver p e old reading s) := by
  unfold handOver; simp only
  have a : ∀ l : List (Fin 12), sameBesides [.reg, .heat, .inp, .faults] s (l.foldl (fun u z => sensorNotice p z u) s) :=
    fun l => sameBesides_foldl _ (fun u z => sensorNotice_frame p z u) l s
  have b : ∀ t, sameBesides [.reg, .heat, .inp, .faults] s t → sameBesides [.reg, .heat, .inp, .faults] s
      (if pipeUnit p = some e then
        (if (s.link.entries[e].state != old) = true then pipeStateChange p (match reading with
          | some (v, band) => pipeReading p v band t
          | none => t) else (match reading with
          | some (v, band) => pipeReading p v band t
          | none => t)) else t) := by
    intro t ht
    have r : sameBesides [.reg, .heat, .inp, .faults] s (match reading with
        | some (v, band) => pipeReading p v band t
        | none => t) := by
      split
      · exact sameBesides_step (pipeReading_frame p _ _ _) (by decide) ht
      · exact ht
    split
    · split
      · exact sameBesides_step (pipeStateChange_frame p _) (by decide) r
      · exact r
    · exact ht
  split
  · exact sameBesides_step (outdoorNotice_frame p _ _) (by decide) (b _ (a _))
  · exact b _ (a _)

theorem applyMiss_frame (p : Plan) (e : Fin 16) (s : State) :
    sameBesides [.link, .reg, .heat, .inp, .faults] s (applyMiss p e s) := by
  have a : sameBesides [.link, .reg, .heat, .inp, .faults] s (s.updEntry e entryMiss) :=
    sameBesides_mono (updEntry_frame s e _) (by decide)
  unfold applyMiss; simp only
  refine sameBesides_step (handOver_frame p e _ _ _) (by decide) ?_
  repeat' split
  all_goals first
    | exact a
    | exact sameBesides_step (report_frame _ _ _) (by decide) a
    | exact sameBesides_step (setMark_frame _) (by decide) a
    | exact sameBesides_step (setMark_frame _) (by decide) (sameBesides_step (report_frame _ _ _) (by decide) a)

theorem applyReading_frame (p : Plan) (e : Fin 16) (c : LinkCommand) (chars : List LinkChar) (s : State) :
    sameBesides [.link, .reg, .heat, .inp, .faults] s (applyReading p e c chars s) := by
  unfold applyReading; simp only
  refine sameBesides_step (handOver_frame p e _ _ _) (by decide) (sameBesides_step (reportEnd_frame _ _ _) (by decide) ?_)
  split
  · exact sameBesides_step (updEntry_frame _ e _) (by decide) (sameBesides_mono (updEntry_frame s e _) (by decide))
  · exact sameBesides_mono (updEntry_frame s e _) (by decide)

theorem applyReport_frame (p : Plan) (e : Fin 16) (chars : List LinkChar) (s : State) :
    sameBesides [.link, .faults] s (applyReport p e chars s) := by
  unfold applyReport; simp only; split
  · exact sameBesides_step (reportEnd_frame _ _ _) (by decide) (sameBesides_mono (updEntry_frame s e _) (by decide))
  · exact sameBesides_step (report_frame _ _ _) (by decide) (sameBesides_mono (updEntry_frame s e _) (by decide))

theorem applyLimits_frame (e : Fin 16) (marked : Bool) (s : State) : sameBesides [.link] s (applyLimits e marked s) := by
  unfold applyLimits; simp only; split
  · exact updEntry_frame s e _
  · exact sameBesides_trans (updEntry_frame s e _) (setLink_frame _ _)

theorem applyReply_frame (p : Plan) (x : LinkTransaction) (chars : List LinkChar) (s : State) :
    sameBesides [.link, .reg, .heat, .inp, .faults] s (applyReply p x chars s) := by
  have a : sameBesides [.link, .reg, .heat, .inp, .faults] s
      (if (x.command == .report) = true then applyReport p x.entry chars s else s) := by
    split
    · exact sameBesides_mono (applyReport_frame p _ chars s) (by decide)
    · exact sameBesides_refl _ _
  unfold applyReply; simp only
  generalize (if (x.command == .report) = true then applyReport p x.entry chars s else s) = u at a
  split
  · split
    · exact sameBesides_step (applyLimits_frame _ _ _) (by decide) a
    · split
      · exact a
      · exact sameBesides_trans a (applyReading_frame p _ _ _ _)
  · exact sameBesides_trans a (applyMiss_frame p _ _)

theorem endTransaction_frame {l : List Block} (p : Plan) (x : LinkTransaction) (f : State → State) (s : State)
    (h : sameBesides l s (f s)) (hl : Block.link ∈ l) : sameBesides l s (endTransaction p x f s) := by
  have a : ∀ u, sameBesides l s u → sameBesides l s
      (choose p (releaseLink (u.setLink { u.link with contentions := 0 }))) := fun u hu =>
    sameBesides_step (choose_frame p _) (by simp [hl]) (sameBesides_step (setLink_frame _ _) (by simp [hl])
      (sameBesides_step (setLink_frame _ _) (by simp [hl]) hu))
  unfold endTransaction; simp only; split
  · exact a s (sameBesides_refl _ _)
  · exact a _ h

theorem invalidReply_frame (p : Plan) (x : LinkTransaction) (s : State) :
    sameBesides [.link, .reg, .heat, .inp, .faults] s (invalidReply p x s) := by
  unfold invalidReply; split
  · exact endTransaction_frame p x _ s (applyMiss_frame p _ s) (by decide)
  · exact sameBesides_mono (setLink_frame s _) (by decide)

theorem contend_frame (p : Plan) (x : LinkTransaction) (s : State) :
    sameBesides [.link, .reg, .heat, .inp, .faults] s (contend p x s) := by
  have a : sameBesides [.link, .reg, .heat, .inp, .faults] s (if x.dropped = true then s else applyMiss p x.entry s) := by
    split
    · exact sameBesides_refl _ _
    · exact applyMiss_frame p _ s
  unfold contend; simp only
  generalize (if x.dropped = true then s else applyMiss p x.entry s) = u at a
  split
  · exact sameBesides_step (choose_frame p _) (by decide) (sameBesides_step (setLink_frame _ _) (by decide)
      (sameBesides_step (setLink_frame _ _) (by decide) a))
  · exact sameBesides_step (report_frame _ _ _) (by decide) (sameBesides_step (setLink_frame _ _) (by decide) a)

theorem replyEnd_frame (chars : List LinkChar) (p : Plan) (x : LinkTransaction) (s : State) :
    sameBesides [.link, .reg, .heat, .inp, .faults] s (replyEnd chars p x s) := by
  unfold replyEnd; split
  · exact sameBesides_trans (sameBesides_mono (reportEnd_frame s _ _) (by decide))
      (endTransaction_frame p x _ _ (applyReply_frame p x chars _) (by decide))
  · exact invalidReply_frame p x s

/-! ## Memory path -/

theorem onesReceived_frame (n : Nat) (s : State) : sameBesides [.mem] s (onesReceived n s) := setMem_frame s _

/-- In a held transaction a command byte, with the bytes after it, is received as ones and does nothing else (R16). -/
theorem onCommand_held (first : BusByte) (more : List BusByte) (f : Tracked → State → State) (s : State)
    (h : s.mem.txn = .held) : onCommand first more f s = onesReceived (1 + more.length) s := by simp [onCommand, h]

/-- In an untracked transaction a command byte, with the bytes after it, is forwarded and does nothing else (R5). -/
theorem onCommand_untracked (first : BusByte) (more : List BusByte) (f : Tracked → State → State) (s : State)
    (h : s.mem.txn = .untracked) : onCommand first more f s = s.setMem (forwardBytes (first :: more) s.mem) := by
  simp [onCommand, h]

/-- In a tracked transaction with no class yet a command byte gives the class, is forwarded with the bytes after it, and acts (R3, R4). -/
theorem onCommand_tracked (first : BusByte) (more : List BusByte) (f : Tracked → State → State) (s : State) (t : Tracked)
    (h : s.mem.txn = .tracked t) (c : t.cls = none) :
    onCommand first more f s =
      f (classified first.sdi more.length s.mem t)
        (s.setMem { forwardBytes (first :: more) s.mem with txn := .tracked (classified first.sdi more.length s.mem t) }) := by
  simp [onCommand, h, c]

/-- A READ leaves what the host received before its data bytes, and drives one byte for each of them (R14). -/
theorem drivenOver_append (before data old : List Byte) (bits : List Bool) (h : old.length = data.length) :
    drivenOver data ⟨before ++ old, bits⟩ = ⟨before ++ data, bits⟩ := by simp [drivenOver, h]

/-- A data byte of a held WRITE is received as ones and lands nothing (R16). -/
theorem dataByte_held (x : BusByte) (s : State) (h : s.mem.txn = .held) : dataByte x s = onesReceived 1 s := by
  simp [dataByte, h]

theorem transactionEnd_frame (bits : List BusBit) (s : State) : sameBesides [.mem] s (transactionEnd bits s) := by
  unfold transactionEnd lastClocks; simp only
  split
  all_goals exact sameBesides_trans (setMem_frame s _) (setMem_frame _ _)

/-- The end of any transaction leaves CS_U# high with no image frozen, and SDO_U no longer held at ones (R14, R16). -/
theorem transactionEnd_idle (bits : List BusBit) (s : State) :
    (transactionEnd bits s).mem.txn = .idle ∧ (transactionEnd bits s).mem.image = none ∧
      (finish (transactionEnd bits s)).pins.sdoOnes = false := ⟨rfl, rfl, rfl⟩

/-- The controller's own transactions of a load or reload move 3,335 bytes in 26,680 clocks (R17). -/
theorem sequenceTransactions_clocks (base : Nat) :
    ((sequenceTransactions base).map (·.clocks)).sum = 26680 := by simp [sequenceTransactions]

/-! ## Requests -/

theorem landProducer_frame (v : Byte) (s : State) : sameBesides [.req, .faults] s (landProducer v s) := by
  unfold landProducer
  repeat' split
  · exact sameBesides_refl _ _
  · exact sameBesides_step (reportEnd_frame _ _ _) (by decide) (sameBesides_mono (setReq_frame s _) (by decide))
  · exact sameBesides_step (report_frame _ _ _) (by decide) (sameBesides_mono (setReq_frame s _) (by decide))

theorem complete_frame (tag : Byte) (status : Status) (detail : Nat) (s : State) :
    sameBesides [.req, .faults] s (complete tag status detail s) :=
  sameBesides_step (raiseAttention_frame _) (by decide) (sameBesides_mono (setReq_frame s _) (by decide))

theorem setClockTo_frame (day minute : Nat) (s : State) : sameBesides [.clk, .faults] s (setClockTo day minute s) := by
  unfold setClockTo; simp only
  refine sameBesides_step (evaluateSchedule_frame _) (by decide) ?_
  split
  · exact sameBesides_mono (setClk_frame s _) (by decide)
  · exact sameBesides_step (reportEnd_frame _ _ _) (by decide) (sameBesides_mono (setClk_frame s _) (by decide))

end Sys2Proof.Machine
end

