-- ==== Sys2Proof/Laws/Heat.lean ====
section
/-!
SUPPORT. What the heat source's shared operations can do, said once for each: the flow target's recomputation, a move of the state, the
judging of start permission, and the events of services and lockouts.
-/

namespace Sys2Proof.Machine

/-! ## Recomputation and moves -/

/-- A recomputation changes the flow target and the duty only. -/
theorem recompute_heat (p : Plan) (s : State) :
    ∃ target duty, (recompute p s).heat = { s.heat with flowTarget := target, duty := duty } := by
  unfold recompute; split
  · exact ⟨_, _, rfl⟩
  · split
    · exact ⟨s.heat.flowTarget, s.heat.duty, rfl⟩
    · exact ⟨_, _, rfl⟩

/-- A move takes the heat source as given, but for the flow target and the duty. -/
theorem move_heat (p : Plan) (h : HeatSource) (s : State) :
    ∃ target duty, (move p h s).heat = { h with flowTarget := target, duty := duty } := by
  unfold move; simp only; split
  · exact recompute_heat p _
  · exact ⟨h.flowTarget, h.duty, rfl⟩

/-- A move hands the input unit the switch of PUMP, and nothing else. -/
theorem move_inp (p : Plan) (h : HeatSource) (s : State) : (move p h s).inp = pumpEdge p (pumpOn s.heat) (pumpOn h) s.inp := by
  unfold move; simp only; split
  · exact recompute_frame p _ .inp (by decide)
  · rfl

section
variable (p : Plan) (a b : Bool) (i : InputUnit)
@[simp] theorem pumpEdge_time : (pumpEdge p a b i).time = i.time := by cases a <;> cases b <;> rfl
@[simp] theorem pumpEdge_pins : (pumpEdge p a b i).pins = i.pins := by cases a <;> cases b <;> rfl
@[simp] theorem pumpEdge_windowOpen : (pumpEdge p a b i).windowOpen = i.windowOpen := by cases a <;> cases b <;> rfl
@[simp] theorem pumpEdge_windowEvents : (pumpEdge p a b i).windowEvents = i.windowEvents := by
  cases a <;> cases b <;> rfl
@[simp] theorem pumpEdge_boilerFault : (pumpEdge p a b i).boilerFault = i.boilerFault := by cases a <;> cases b <;> rfl
@[simp] theorem pumpEdge_supplyLow : (pumpEdge p a b i).supplyLow = i.supplyLow := by cases a <;> cases b <;> rfl
@[simp] theorem pumpEdge_period : (pumpEdge p a b i).period = i.period := by cases a <;> cases b <;> rfl
@[simp] theorem pumpEdge_same : pumpEdge p a a i = i := by cases a <;> rfl
end

/-! ## Judging -/

/-- Everything that a judging of the state machine can do (R165 to R171). -/
theorem judge_cases (p : Plan) (s : State) :
    (judge p s = s ∧
      ((∃ v, served s = some v ∧ s.heat.state = .prerun ∧ startBlock p s v = .none) ∨
        (∃ v, served s = some v ∧ s.heat.state = .postrun ∧ startBlock p s v ≠ .none) ∨
        (∃ v, served s = some v ∧ s.heat.state = .firing ∧ (minOnPassed p s = false ∨ pathHolds p s v = true)) ∨
        (served s = none ∧ s.heat.state = .firing ∧ minOnPassed p s = false) ∨
        (served s = none ∧ (s.heat.state = .off ∨ s.heat.state = .postrun)) ∨ s.heat.state = .lockout)) ∨
    (∃ v, judge p s = toPrerun p v s ∧ served s = some v ∧ startBlock p s v = .none ∧
      (s.heat.state = .off ∨ s.heat.state = .held ∨ s.heat.state = .postrun)) ∨
    (∃ v, judge p s = toHeld p v (startBlock p s v) s ∧ served s = some v ∧ startBlock p s v ≠ .none ∧
      (s.heat.state = .off ∨ s.heat.state = .held ∨ s.heat.state = .prerun)) ∨
    (judge p s = toOff p s ∧ served s = none ∧ (s.heat.state = .held ∨ s.heat.state = .prerun)) ∨
    (judge p s = toPostrun p s ∧ s.heat.state = .firing ∧ minOnPassed p s = true ∧
      ∀ v, served s = some v → pathHolds p s v = false) := by
  cases hs : served s with
  | none =>
    cases hh : s.heat.state <;> simp [judge, judgeIdle, hs, hh]
    cases hm : minOnPassed p s <;> simp
  | some v =>
    cases hh : s.heat.state <;> by_cases hb : startBlock p s v = .none <;> simp [judge, judgeServed, hs, hh, hb]
    all_goals cases minOnPassed p s <;> cases pathHolds p s v <;> simp

/-- What a judging never changes of the heat source. -/
structure HeatKeeps (a b : HeatSource) : Prop where
  frostCall : b.frostCall = a.frostCall
  inService : b.inService = a.inService
  cause : b.cause = a.cause
  boilerNoted : b.boilerNoted = a.boilerNoted
  retryCount : b.retryCount = a.retryCount
  ignitions : b.ignitions = a.ignitions
  burnerStart : b.burnerStart = a.burnerStart
  pumpRunExpiry : b.pumpRunExpiry = a.pumpRunExpiry
  retryExpiry : b.retryExpiry = a.retryExpiry
  cap : b.cap = a.cap
  cylTimer : b.cylTimer = a.cylTimer
  cylBlock : b.cylBlock = a.cylBlock
  outdoorHold : b.outdoorHold = a.outdoorHold

theorem HeatKeeps.refl (a : HeatSource) : HeatKeeps a a := by constructor <;> rfl

theorem HeatKeeps.trans {a b c : HeatSource} (h : HeatKeeps a b) (k : HeatKeeps b c) : HeatKeeps a c := by
  constructor
  · rw [k.frostCall, h.frostCall]
  · rw [k.inService, h.inService]
  · rw [k.cause, h.cause]
  · rw [k.boilerNoted, h.boilerNoted]
  · rw [k.retryCount, h.retryCount]
  · rw [k.ignitions, h.ignitions]
  · rw [k.burnerStart, h.burnerStart]
  · rw [k.pumpRunExpiry, h.pumpRunExpiry]
  · rw [k.retryExpiry, h.retryExpiry]
  · rw [k.cap, h.cap]
  · rw [k.cylTimer, h.cylTimer]
  · rw [k.cylBlock, h.cylBlock]
  · rw [k.outdoorHold, h.outdoorHold]

theorem recompute_keeps (p : Plan) (s : State) : HeatKeeps s.heat (recompute p s).heat := by
  obtain ⟨a, b, h⟩ := recompute_heat p s; rw [h]; constructor <;> rfl

theorem toOff_keeps (p : Plan) (s : State) : HeatKeeps s.heat (toOff p s).heat := by
  obtain ⟨a, b, h⟩ := move_heat p _ s; unfold toOff; rw [h]; constructor <;> rfl

theorem toHeld_keeps (p : Plan) (v : Service) (r : HoldReason) (s : State) : HeatKeeps s.heat (toHeld p v r s).heat := by
  obtain ⟨a, b, h⟩ := move_heat p _ s; unfold toHeld; rw [h]; constructor <;> rfl

theorem toPrerun_keeps (p : Plan) (v : Service) (s : State) : HeatKeeps s.heat (toPrerun p v s).heat := by
  obtain ⟨a, b, h⟩ := move_heat p _ s; unfold toPrerun; rw [h]; constructor <;> rfl

theorem toPostrun_keeps (p : Plan) (s : State) : HeatKeeps s.heat (toPostrun p s).heat := by
  obtain ⟨a, b, h⟩ := move_heat p _ s; unfold toPostrun; rw [h]; constructor <;> rfl

theorem judge_keeps (p : Plan) (s : State) : HeatKeeps s.heat (judge p s).heat := by
  rcases judge_cases p s with ⟨h, _⟩ | ⟨v, h, _⟩ | ⟨v, h, _⟩ | ⟨h, _⟩ | ⟨h, _⟩ <;> rw [h]
  · exact HeatKeeps.refl _
  · exact toPrerun_keeps p v s
  · exact toHeld_keeps p v _ s
  · exact toOff_keeps p s
  · exact toPostrun_keeps p s

/-- The served service depends on the in-service list alone. -/
theorem served_congr {s t : State} (h : t.heat.inService = s.heat.inService) : served t = served s := by
  unfold served; rw [h]

/-- Start permission depends on run seconds, the last stop, the ignition log, the cap level, the valves and the pipe unit's entry. -/
theorem startBlock_congr (p : Plan) {s t : State} (v : Service) (clk : t.clk = s.clk) (link : t.link = s.link) (drv : t.drv = s.drv)
    (stop : t.heat.lastStop = s.heat.lastStop) (ign : t.heat.ignitions = s.heat.ignitions) (cap : t.heat.cap = s.heat.cap) :
    startBlock p t v = startBlock p s v := by
  simp only [startBlock, pathHolds, openValves, pipeUsable, clk, link, drv, stop, ign, cap]
  rfl

/-- The input unit but for the flow capture and the flow states. -/
structure InputsKeep (a b : InputUnit) : Prop where
  time : b.time = a.time
  pins : b.pins = a.pins
  windowOpen : b.windowOpen = a.windowOpen
  windowEvents : b.windowEvents = a.windowEvents
  boilerFault : b.boilerFault = a.boilerFault
  supplyLow : b.supplyLow = a.supplyLow
  period : b.period = a.period

theorem InputsKeep.refl (a : InputUnit) : InputsKeep a a := by constructor <;> rfl

theorem InputsKeep.trans {a b c : InputUnit} (h : InputsKeep a b) (k : InputsKeep b c) : InputsKeep a c := by
  constructor
  · rw [k.time, h.time]
  · rw [k.pins, h.pins]
  · rw [k.windowOpen, h.windowOpen]
  · rw [k.windowEvents, h.windowEvents]
  · rw [k.boilerFault, h.boilerFault]
  · rw [k.supplyLow, h.supplyLow]
  · rw [k.period, h.period]

theorem InputsKeep.of_eq {a b : InputUnit} (h : b = a) : InputsKeep a b := h ▸ InputsKeep.refl a

theorem recompute_inputs (p : Plan) (s : State) : InputsKeep s.inp (recompute p s).inp :=
  .of_eq (recompute_frame p s .inp (by decide))

theorem move_inputs (p : Plan) (h : HeatSource) (s : State) : InputsKeep s.inp (move p h s).inp := by
  rw [move_inp]; constructor <;> simp

theorem judge_inputs (p : Plan) (s : State) : InputsKeep s.inp (judge p s).inp := by
  rcases judge_cases p s with ⟨h, _⟩ | ⟨v, h, _⟩ | ⟨v, h, _⟩ | ⟨h, _⟩ | ⟨h, _⟩ <;> rw [h]
  · exact InputsKeep.refl _
  all_goals exact move_inputs p _ s

/-! ## Services -/

/-- A service event changes, besides the state moves, the in-service list to the next one and the cylinder timer. -/
theorem serviceEvent_heat (notice : Bool) (p : Plan) (s : State) :
    HeatKeeps { s.heat with
      inService := nextInService p s
      cylTimer := if s.heat.inService.contains .cylinder && !(nextInService p s).contains .cylinder then 0 else s.heat.cylTimer }
      (serviceEvent notice p s).heat := by
  have a : HeatKeeps (setInService (nextInService p s) s).heat (followDiv p (setInService (nextInService p s) s)).heat := by
    unfold followDiv; split
    all_goals constructor <;> rfl
  have b := a.trans (judge_keeps p (followDiv p (setInService (nextInService p s) s)))
  show HeatKeeps (setInService (nextInService p s) s).heat _
  unfold serviceEvent
  generalize judge p (followDiv p (setInService (nextInService p s) s)) = u at b
  by_cases h : (notice || served u != served s) = true
  · simp only [h, if_true]; exact b.trans (recompute_keeps p u)
  · simp only [h]; exact b

theorem followDiv_inp (p : Plan) (s : State) : (followDiv p s).inp = s.inp := followDiv_frame p s .inp (by decide)

theorem serviceEvent_inputs (notice : Bool) (p : Plan) (s : State) : InputsKeep s.inp (serviceEvent notice p s).inp := by
  have b : InputsKeep s.inp (judge p (followDiv p (setInService (nextInService p s) s))).inp := by
    have := judge_inputs p (followDiv p (setInService (nextInService p s) s))
    rwa [followDiv_inp] at this
  unfold serviceEvent; simp only; split
  · exact b.trans (recompute_inputs p _)
  · exact b

theorem callNotice_inputs (s : State) : InputsKeep s.inp (callNotice s).inp := by
  unfold callNotice; split
  · exact InputsKeep.refl _
  · exact serviceEvent_inputs _ _ s

theorem valveNotice_inputs (s : State) : InputsKeep s.inp (valveNotice s).inp := by
  unfold valveNotice; split
  · exact InputsKeep.refl _
  · exact judge_inputs _ s

theorem valveNotice_keeps (s : State) : HeatKeeps s.heat (valveNotice s).heat := by
  unfold valveNotice; split
  · exact HeatKeeps.refl _
  · exact judge_keeps _ s

theorem toLockout_inputs (p : Plan) (c : LockoutCause) (s : State) : InputsKeep s.inp (toLockout p c s).inp := by
  unfold toLockout
  simp only [reportCause_frame _ _ .inp (by decide) |> fun h => (show (reportCause _ _).inp = _ from h)]
  exact move_inputs p _ s

theorem setFlow_inputs (p : Plan) (f : FlowStates) (s : State) : InputsKeep s.inp (setFlow p f s).inp := by
  have a : InputsKeep s.inp (s.setInp { s.inp with flow := f }).inp := by constructor <;> rfl
  have b : InputsKeep s.inp (if (effectiveCap (s.setInp { s.inp with flow := f }) != effectiveCap s) = true then
      recompute p (s.setInp { s.inp with flow := f }) else s.setInp { s.inp with flow := f }).inp := by
    split
    · exact a.trans (recompute_inputs p _)
    · exact a
  unfold setFlow; simp only
  split
  · exact InputsKeep.refl _
  · generalize (if (effectiveCap (s.setInp { s.inp with flow := f }) != effectiveCap s) = true then
      recompute p (s.setInp { s.inp with flow := f }) else s.setInp { s.inp with flow := f }) = u at b
    split
    · exact b.trans (toLockout_inputs p _ _)
    · exact b

/-- A judging with its end judges start permission. -/
theorem judge_permission (p : Plan) (s : State) : PermissionJudged p s (finish (judge p s)) := by
  intro v hv
  have hb : startBlock p (finish (judge p s)) v = startBlock p s v ∨ s.heat.state = .firing := by
    by_cases hf : s.heat.state = .firing
    · exact .inr hf
    left
    have k := judge_keeps p s
    have f := judge_frame p s
    refine startBlock_congr p v (f .clk (by decide)) (f .link (by decide)) (f .drv (by decide)) ?_ k.ignitions k.cap
    show (judge p s).heat.lastStop = _
    rcases judge_cases p s with ⟨h, _⟩ | ⟨v, h, _⟩ | ⟨v, h, _⟩ | ⟨h, _⟩ | ⟨h, h2, _⟩
    · rw [h]
    · rw [h]; obtain ⟨a, b, e⟩ := move_heat p _ s; unfold toPrerun; rw [e]
    · rw [h]; obtain ⟨a, b, e⟩ := move_heat p _ s; unfold toHeld; rw [e]
    · rw [h]; obtain ⟨a, b, e⟩ := move_heat p _ s; unfold toOff; rw [e]
    · exact absurd h2 hf
  intro why
  have hp : ∀ t : State, (finish t).pins.pump = pumpOn t.heat := fun t => rfl
  refine ⟨fun h => ?_, fun h => ?_, fun h => ?_⟩
  all_goals
    have hb' : why = startBlock p s v := by
      rcases hb with hb | hb
      · exact hb
      · simp_all
    rw [hb']
    clear hb hb'
    rcases judge_cases p s with ⟨hj, hc⟩ | ⟨w, hj, hw, hc, hst⟩ | ⟨w, hj, hw, hc, hst⟩ | ⟨hj, hw, hc⟩ | ⟨hj, h2, _⟩
    all_goals first
      | (simp only [hv, Option.some.injEq] at hw; subst hw)
      | skip
    all_goals try (exfalso; simp_all; done)
    all_goals simp only [finish_heat, hp, hj]
    all_goals try (obtain ⟨a, b, e⟩ := move_heat p { s.heat with
        state := .prerun, hold := .none, prerunExpiry := some (s.clk.runSeconds + p.header.prerun), postrunExpiry := none,
        div := divPosition p v } s; simp only [toPrerun, e]; simp_all [pumpOn])
    all_goals try (obtain ⟨a, b, e⟩ := move_heat p { s.heat with
        state := .held, hold := startBlock p s v, prerunExpiry := none, postrunExpiry := none, div := divPosition p v } s
                   simp only [toHeld, e]; simp_all [pumpOn])
    all_goals try (simp_all; done)
  all_goals
    rcases hc with ⟨x, hx, hy, hz⟩ | ⟨x, hx, hy, hz⟩ | ⟨x, hx, hy, hz⟩ | ⟨hx, hy, hz⟩ | ⟨hx, hy⟩ | hx <;> simp_all [pumpOn]

end Sys2Proof.Machine
end

