-- ==== Sys2Proof/Laws/Shadow.lean ====
section
/-!
SUPPORT. The shadow as an addressed buffer: every operation keeps the canonical form, a read after a write, the bytes a load puts
there, and that equal contents are equal lists.
-/

namespace Sys2Proof.Machine

/-- An offset below every listed one reads 0. -/
theorem Shadow.read_below : ∀ (m : List Host.Cell) (lo a : Nat), Shadow.wfFrom lo m = true → a < lo → Shadow.read m a = 0
  | [], _, _, _, _ => rfl
  | c :: rest, lo, a, h, ha => by
    simp only [Shadow.wfFrom, Bool.and_eq_true, decide_eq_true_eq] at h
    obtain ⟨⟨⟨hlo, -⟩, -⟩, hr⟩ := h
    have hne : ¬c.1 = a := by omega
    simp only [Shadow.read, hne, if_false]
    exact Shadow.read_below rest (c.1 + 1) a hr (by omega)

/-- The canonical form from an offset on is one from every lower offset on. -/
theorem Shadow.wfFrom_mono {lo hi : Nat} (hle : lo ≤ hi) :
    ∀ m : List Host.Cell, Shadow.wfFrom hi m = true → Shadow.wfFrom lo m = true
  | [], _ => rfl
  | c :: rest, h => by
    simp only [Shadow.wfFrom, Bool.and_eq_true, decide_eq_true_eq] at h ⊢
    obtain ⟨⟨⟨h1, h2⟩, h3⟩, h4⟩ := h
    exact ⟨⟨⟨by omega, h2⟩, h3⟩, h4⟩

/-- A write below 0x0D00 keeps the canonical form. -/
theorem Shadow.write_wfFrom (a : Nat) (v : Byte) (ha : a < 0x0D00) :
    ∀ (m : List Host.Cell) (lo : Nat), Shadow.wfFrom lo m = true → lo ≤ a → Shadow.wfFrom lo (Shadow.write m a v) = true
  | [], lo, _, hlo => by
    unfold Shadow.write
    split
    · rfl
    · simp_all [Shadow.wfFrom]
  | c :: rest, lo, h, hlo => by
    simp only [Shadow.wfFrom, Bool.and_eq_true, decide_eq_true_eq] at h
    obtain ⟨⟨⟨h1, h2⟩, h3⟩, h4⟩ := h
    unfold Shadow.write
    split
    · split
      · simp_all [Shadow.wfFrom]
      · have hac : a + 1 ≤ c.1 := by omega
        simp_all [Shadow.wfFrom]
    · split
      · subst a
        split
        · exact Shadow.wfFrom_mono (by omega) rest h4
        · simp_all [Shadow.wfFrom]
      · have := Shadow.write_wfFrom a v ha rest (c.1 + 1) h4 (by omega)
        simp_all [Shadow.wfFrom]

/-- A write below 0x0D00 keeps the canonical form of a shadow. -/
theorem Shadow.write_wf {m : List Host.Cell} {a : Nat} (v : Byte) (h : Shadow.wf m = true) (ha : a < 0x0D00) :
    Shadow.wf (Shadow.write m a v) = true :=
  Shadow.write_wfFrom a v ha m 0 h (Nat.zero_le a)

/-- A read after a write: the offset written gives the byte, and every other offset what it gave. -/
theorem Shadow.read_write (a b : Nat) (v : Byte) :
    ∀ (m : List Host.Cell) (lo : Nat), Shadow.wfFrom lo m = true →
      Shadow.read (Shadow.write m a v) b = if b = a then v else Shadow.read m b
  | [], _, _ => by
    unfold Shadow.write
    by_cases hb : b = a
    · subst hb
      split <;> simp_all [Shadow.read]
    · have : ¬a = b := fun e => hb e.symm
      split <;> simp [Shadow.read, this]
  | c :: rest, lo, h => by
    simp only [Shadow.wfFrom, Bool.and_eq_true, decide_eq_true_eq] at h
    obtain ⟨-, h4⟩ := h
    have below := fun x hx => Shadow.read_below rest (c.1 + 1) x h4 hx
    have ih := Shadow.read_write a b v rest (c.1 + 1) h4
    unfold Shadow.write
    split
    · split
      · by_cases hb : b = a
        · have hne : ¬c.1 = b := by omega
          have hbelow := below b (by omega)
          simp_all [Shadow.read]
        · simp [hb]
      · by_cases hb : b = a
        · simp [Shadow.read, hb]
        · have : ¬a = b := fun e => hb e.symm
          simp [Shadow.read, hb, this]
    · split
      · subst a
        split
        · by_cases hb : b = c.1
          · simp_all
          · have : ¬c.1 = b := fun e => hb e.symm
            simp [Shadow.read, hb, this]
        · by_cases hb : b = c.1
          · simp [Shadow.read, hb]
          · have : ¬c.1 = b := fun e => hb e.symm
            simp [Shadow.read, hb, this]
      · by_cases hc : c.1 = b
        · have : ¬b = a := by omega
          simp [Shadow.read, hc, this]
        · simp [Shadow.read, hc, ih]

/-- The list a load builds is canonical. -/
theorem Shadow.ofBytes_wfFrom :
    ∀ (bytes : List Byte) (a : Nat), a + bytes.length ≤ 0x0D00 → Shadow.wfFrom a (Shadow.ofBytes a bytes) = true
  | [], _, _ => rfl
  | b :: rest, a, h => by
    simp only [List.length_cons] at h
    have ih := Shadow.ofBytes_wfFrom rest (a + 1) (by omega)
    unfold Shadow.ofBytes
    split
    · exact Shadow.wfFrom_mono (by omega) _ ih
    · have : a < 0x0D00 := by omega
      simp_all [Shadow.wfFrom]

/-- The shadow after load step 5 is canonical. -/
theorem Shadow.ofBytes_wf {bytes : List Byte} (h : bytes.length ≤ 0x0D00) : Shadow.wf (Shadow.ofBytes 0 bytes) = true :=
  Shadow.ofBytes_wfFrom bytes 0 (by omega)

/-- The shadow after load step 5 reads as the bytes loaded. -/
theorem Shadow.read_ofBytes :
    ∀ (bytes : List Byte) (a i : Nat), a + bytes.length ≤ 0x0D00 → i < bytes.length →
      bytes[i]? = some (Shadow.read (Shadow.ofBytes a bytes) (a + i))
  | [], _, _, _, h => by simp at h
  | b :: rest, a, i, h, hi => by
    simp only [List.length_cons] at h hi
    have wf := Shadow.ofBytes_wfFrom rest (a + 1) (by omega)
    unfold Shadow.ofBytes
    cases i with
    | zero =>
      split
      · simp [Shadow.read_below _ _ _ wf (Nat.lt_succ_self a), *]
      · simp [Shadow.read]
    | succ i =>
      have ih := Shadow.read_ofBytes rest (a + 1) i (by omega) (by omega)
      have e : a + 1 + i = a + (i + 1) := by omega
      rw [e] at ih
      split
      · simpa using ih
      · have : ¬a = a + (i + 1) := by omega
        simpa [Shadow.read, this] using ih

/-- Canonical shadows that read the same are the same list. -/
theorem Shadow.ext_of_read :
    ∀ (m n : List Host.Cell) (lo : Nat), Shadow.wfFrom lo m = true → Shadow.wfFrom lo n = true →
      (∀ a, Shadow.read m a = Shadow.read n a) → m = n
  | [], [], _, _, _, _ => rfl
  | [], c :: rest, lo, _, hn, h => by
    simp only [Shadow.wfFrom, Bool.and_eq_true] at hn
    have := h c.1
    simp_all [Shadow.read]
  | c :: rest, [], lo, hm, _, h => by
    simp only [Shadow.wfFrom, Bool.and_eq_true] at hm
    have := h c.1
    simp_all [Shadow.read]
  | c :: rest, d :: others, lo, hm, hn, h => by
    simp only [Shadow.wfFrom, Bool.and_eq_true, decide_eq_true_eq] at hm hn
    obtain ⟨⟨⟨m1, m2⟩, m3⟩, m4⟩ := hm
    obtain ⟨⟨⟨n1, n2⟩, n3⟩, n4⟩ := hn
    have mb := fun x hx => Shadow.read_below rest (c.1 + 1) x m4 hx
    have nb := fun x hx => Shadow.read_below others (d.1 + 1) x n4 hx
    have hcd : c.1 = d.1 := by
      rcases Nat.lt_trichotomy c.1 d.1 with hlt | heq | hgt
      · have e := h c.1
        have hne : ¬d.1 = c.1 := by omega
        simp [Shadow.read, hne, nb c.1 (by omega)] at e
        simp [e] at m3
      · exact heq
      · have e := h d.1
        have hne : ¬c.1 = d.1 := by omega
        simp [Shadow.read, hne, mb d.1 (by omega)] at e
        simp [← e] at n3
    have hv : c.2 = d.2 := by
      have e := h c.1
      simpa [Shadow.read, hcd] using e
    have hrest : rest = others := by
      refine Shadow.ext_of_read rest others (c.1 + 1) m4 (hcd ▸ n4) fun a => ?_
      by_cases hac : c.1 = a
      · rw [mb a (by omega), nb a (by omega)]
      · have e := h a
        have : ¬d.1 = a := by omega
        simpa [Shadow.read, hac, this] using e
    rw [hrest, Prod.ext hcd hv]

/-- The shadow right after reset is canonical. -/
theorem Shadow.reset_wf : Shadow.wf State.reset.plan.shadow = true := rfl

end Sys2Proof.Machine
end

