-- ==== Sys2Proof/Tests/Slice0.lean ====
section
/-!
SUPPORT. Tests: the operand checks on ill-formed commands, one small step per command with the values that the spec's worked examples
and tables give, and for every statement a state and operands that meet its hypotheses.
-/

namespace Sys2Proof.Tests

open Sys2Proof Sys2Proof.Machine

/-! ## A small plan and a machine that runs it -/

/-- A header with the defaults of R24, pipe unit 2, outdoor unit 3 and flow pulse input IN3 (sections 5.8.1 and 6.4.1). -/
def header0 : Header where
  magic0 := 0x47
  magic1 := 0x53
  version := 1
  generation := 6
  bypass := false
  cylPathForFrost := false
  frostPriority := 0
  cylPriority := 2
  heatPriority := 4
  pipeIndex := 2
  outdoorIndex := 3
  defaultOutdoor := -5
  slope := 12
  shift := 2
  flowMin := 25
  flowMax := 75
  dshift := 4
  callThreshold := 20
  overheat := 85
  bandLow := 78
  bandMid := 82
  cap1Flow := 60
  cylFlow := 70
  ignMax := 3
  minOn := 3
  minOff := 5
  prerun := 15
  postrun := 3
  cylMax := 45
  cylBlock := 30
  flowIndex := 3
  flowTimeout := 10

/-- A zone record that is not enabled. -/
def zoneOff : ZoneRec where
  enabled := false
  kind := .room
  sensor := 0
  mask := 0
  priority := 0
  frostSp := 14
  ecoSp := 34
  comfortSp := 42
  comfortPlusSp := 44
  kp := 40
  ki := 8
  deadband := 2
  openTime := 180
  closeTime := 240
  minOn := 30
  fallback := 64
  hysteresis := 5
  windowMask := 0
  week := ⟨#[2, 2, 2, 2, 2, 5, 7], rfl⟩

/-- A room zone with the gains of section 7.7.1 and the week of section 3.5.1. -/
def room (sensor : Nat) (mask : BitVec 16) (priority : Nat) (windows : BitVec 8) : ZoneRec :=
  { zoneOff with enabled := true, sensor := sensor, mask := mask, priority := priority, windowMask := windows }

/-- A day profile with its listed points. -/
def profile0 (l : List (Nat × Nat)) : DayProfile :=
  ⟨l.length, tabulate fun j => match l[j.val]? with | some w => ⟨w.1, w.2⟩ | none => ⟨0, 0⟩⟩

/-- Rooms 4 and 5 in group 0, room 6 in group 1, and the cylinder zone 11. -/
def plan0 : Plan where
  header := header0
  zones := ((((Vector.replicate 12 zoneOff).set 4 (room 0 0x0003 3 0)).set 5 (room 1 0x000C 1 0x03)).set 6
    (room 0 0x0300 3 0)).set 11 { zoneOff with
      enabled := true, kind := .cylinder, sensor := 5, frostSp := 40, ecoSp := 100, comfortSp := 130, comfortPlusSp := 140 }
  groups := Vector.replicate 2 ⟨4, 2, 30⟩
  inputs := (((((Vector.replicate 8 ⟨.none, .low, .none, 0, 0⟩).set 0 ⟨.window, .high, .none, 3, 0⟩).set 1
    ⟨.window, .high, .none, 3, 0⟩).set 3 ⟨.flowPulse, .high, .rising, 0, 0⟩).set 4 ⟨.boilerFault, .high, .none, 0, 0⟩).set 5
    ⟨.supplyLow, .high, .none, 0, 0⟩
  sensors := (((((Vector.replicate 16 ⟨false, 0, .room, 0⟩).set 0 ⟨true, 3, .room, -8⟩).set 1 ⟨true, 4, .room, 0⟩).set 2
    ⟨true, 9, .pipe, 8⟩).set 3 ⟨true, 12, .outdoor, 0⟩).set 5 ⟨true, 6, .cylinder, 0⟩
  profiles := ((Vector.replicate 64 (profile0 [])).set 2 (profile0 [(390, 2), (480, 1), (1050, 2), (1350, 1)])).set 5
    (profile0 [(480, 2), (1380, 0)])

/-- An ONLINE entry with a held value. -/
def online (v : Int) : SensorEntry := { SensorEntry.afterReset with state := .online, held := some v, readTime := some 10000 }

/-- A zone in a mode with an integral. -/
def regIn (m : ZoneMode) (i : Nat) : ZoneReg := { ZoneReg.afterReset with mode := m, integral := i }

/-- The machine under `plan0` at run second 10,160, the cycle start of zone 4, firing for HEATING (section 7.7.1). -/
def base : State := { State.reset with
  mem := { State.reset.mem with latch := .clear, prot := .level 0, busy := false, seq := .idle }
  plan := { PlanStore.afterReset with active := some plan0, lastResult := .adopted }
  clk := { ClockUnit.afterPowerOn with
    runSeconds := 10160, minute := 389, valid := true, cycleDue := true
    level := ((((Vector.replicate 12 none).set 4 (some Level.eco)).set 5 (some Level.eco)).set 6 (some Level.eco)).set 11
      (some Level.comfort)
    target := ((((Vector.replicate 12 0).set 4 336).set 5 336).set 6 336).set 11 1040 }
  req := { RequestUnit.afterReset with synced := true, producer := 31, consumer := 30 }
  link := { Link.afterReset with
    state := .idle
    entries := (((((Vector.replicate 16 SensorEntry.afterReset).set 0 (online 312)).set 1 (online 312)).set 2
      (online 992)).set 3 (online (-80))).set 5 (online 950) }
  inp := { InputUnit.afterReset with time := 5000, watch := 10000, pulses := 2, flow := ⟨false, false, true⟩ }
  reg := ((((Vector.replicate 12 ZoneReg.afterReset).set 4 (regIn .running 400)).set 5 (regIn .running 400)).set 6
    { regIn .running 400 with call := true, demand := 200 }).set 11 (regIn .running 0)
  heat := { HeatSource.afterPowerOn with
    state := .firing, inService := [.heating], ignitions := [10000], burnerStart := 10000, flowTarget := 866, duty := 140 } }

/-- The state after a command that completes. -/
def after (c : Instr) (s : State) : State :=
  match exec c s with
  | .next t => t
  | .fault _ | .refused _ => s

/-- A state with changed blocks. -/
def inTxn (t : Transaction) (s : State) : State := s.setMem { s.mem with txn := t }

/-- A tracked transaction before its command byte. -/
def fresh : Tracked := { cls := none, clocks := 0, latchWasSet := false, addr := none, pos := 0 }

/-- A tracked WRITE with its latch SET, after its address bytes. -/
def writing (a : Nat) : Tracked := { cls := some .write, clocks := 32, latchWasSet := true, addr := some a, pos := 0 }

/-- A state with a latch mirror. -/
def latched (l : LatchMirror) (s : State) : State := s.setMem { s.mem with latch := l }

/-- A request in the slot of count 30, slot 14 (R61). -/
def request (l : List Byte) (s : State) : State := s.setPlan { s.plan with shadow := Shadow.ofBytes 0x0BE0 l }

/-- Replace the heat source. -/
def heatIs (f : HeatSource → HeatSource) (s : State) : State := s.setHeat (f s.heat)

/-- Replace the clock and schedule unit. -/
def clkIs (f : ClockUnit → ClockUnit) (s : State) : State := s.setClk (f s.clk)

/-- Replace the input unit. -/
def inpIs (f : InputUnit → InputUnit) (s : State) : State := s.setInp (f s.inp)

/-- Replace the link. -/
def linkIs (f : Link → Link) (s : State) : State := s.setLink (f s.link)

/-- Bytes that the host sends while the memory answers 0. -/
def quiet (l : List Byte) : List BusByte := l.map fun b => ⟨b, 0⟩

/-- Clocks of an incomplete byte with SDI_U high and SDO_M low. -/
def clocked (n : Nat) : List BusBit := List.replicate n ⟨true, false⟩

/-! ## Ill-formed commands (WellFormed.lean) -/

/-- R2, R9: an address has 3 bytes. -/
theorem test_wf_write :
    (Instr.write (quiet [0, 0, 0, 0]) 0).wellFormed = false ∧ (Instr.write (quiet [0, 0, 0]) 0).wellFormed = true := by decide
/-- R3: 8 clocks complete a byte. -/
theorem test_wf_incomplete :
    (Instr.hostTransactionEnd (clocked 8)).wellFormed = false ∧ (Instr.hostTransactionEnd (clocked 7)).wellFormed = true := by decide
/-- R189: 02h is WRITE and 9Fh is unrecognised. -/
theorem test_wf_unrecognised :
    (Instr.unrecognisedCommand ⟨0x02, 0⟩ []).wellFormed = false ∧ (Instr.unrecognisedCommand ⟨0x9F, 0⟩ []).wellFormed = true := by
  decide
/-- R17: 3,328 bytes. -/
theorem test_wf_contents : (Instr.sequenceBusFree 0 [1, 2, 3]).wellFormed = false := by decide
/-- R85: a reply has at least one character. -/
theorem test_wf_reply : (Instr.replyEnd []).wellFormed = false := by decide

/-- R84: the longest request has 7 characters, of which the last is in place 6. -/
theorem test_wf_place :
    (Instr.echoMismatch (some 7)).wellFormed = false ∧ (Instr.echoMismatch (some 6)).wellFormed = true := by decide

/-! ## Command bytes (Decode.lean) -/

/-- R189: the six command bytes, and 9Fh, which is none of them. -/
theorem test_command_bytes :
    [0x06, 0x04, 0x05, 0x01, 0x03, 0x02, 0x9F].map (decodeTableWord 8) =
      [some (.writeEnable [] 0), some (.writeDisable [] 0), some (.readStatus [] 0), some (.writeStatus [] 0), some (.read [] 0),
        some (.write [] 0), some (.unrecognisedCommand ⟨0x9F, 0⟩ [])] := by decide
/-- R2, R9: 02h and the address 01h, 80h, 03h, the first byte in the lowest bits. -/
theorem test_write_word : decodeTableWord 32 0x03800102 = some (.write (quiet [0x01, 0x80, 0x03]) 0) := by decide
/-- R4: a transaction whose command byte does not complete has no class, and no word spells a command. -/
theorem test_no_class :
    hostTransaction [] (clocked 7) = [.hostTransactionBegin, .hostTransactionEnd (clocked 7)] ∧ decodeTableWord 7 0x06 = none := by decide
/-- A word put at the front of the queue is the next command. -/
theorem test_fetch_word : (State.reset.withFetchWord 8 0x06).pending = [.writeEnable [] 0] := by decide

/-! ## Resets and the bus -/

/-- R188: attention number 1, ATTN# released from the start of the reset. -/
theorem test_power_on_reset :
    (after .powerOnReset base).faults.attention = 1 ∧ (after .powerOnReset base).pins.attn = false := by decide
/-- R60: run seconds 0. -/
theorem test_supply_reset : (after .supplyReset base).clk.runSeconds = 0 := by decide
/-- R60, R181: run seconds retained; BURN was on, so the last stop is the reset instant. -/
theorem test_pin_reset :
    (after .pinReset base).clk.runSeconds = 10160 ∧ (after .pinReset base).heat.lastStop = 10160 := by decide
/-- R1: a 64 KiB memory with the last-8 KiB base has its window at 0xE000. -/
theorem test_reset_end :
    (after (.resetEnd ⟨true, true, false, true⟩) (after .pinReset base)).mem.base = 0xE000 ∧
      (after (.resetEnd ⟨true, true, false, true⟩) (after .pinReset base)).mem.cause = .pin := by decide
/-- R16: a fall of CS_U# while BUSY# is asserted is held and counted. -/
theorem test_transaction_held :
    (after .hostTransactionBegin State.reset).mem.txn = .held ∧ (after .hostTransactionBegin State.reset).mem.heldCount = 1 := by
  decide
/-- R16: in a held transaction SDO_U reads ones for the command byte, three address bytes, one data byte and two bits. -/
theorem test_held_reads_ones :
    let t := after (.landedByte ⟨0x47, 0⟩) (after (.write (quiet [0, 0, 3]) 0) (after .hostTransactionBegin State.reset))
    let v := after (.hostTransactionEnd (clocked 2)) t
    t.pins.sdoOnes = true ∧ v.mem.sdoU = ⟨[0xFF, 0xFF, 0xFF, 0xFF, 0xFF], [true, true]⟩ ∧ v.mem.wire = ⟨[], []⟩ ∧
      v.pins.sdoOnes = false := by decide
/-- R7: WRITE ENABLE with exactly 8 clocks. -/
theorem test_write_enable :
    (after (.hostTransactionEnd []) (after (.writeEnable [] 0) (inTxn (.tracked fresh) base))).mem.latch = .set := by decide
/-- R7: a WRITE ENABLE with more than 8 clocks leaves the latch mirror. -/
theorem test_write_enable_long :
    (after (.hostTransactionEnd (clocked 1)) (after (.writeEnable [] 0) (inTxn (.tracked fresh) base))).mem.latch = .clear := by
  decide
/-- The state after commands that complete. -/
def afterAll (l : List Instr) (s : State) : State := l.foldl (fun t c => after c t) s
/-- R7, R189: 06h alone sets the latch mirror, and 06h with a second byte leaves it; 02h with an address in the window lands its byte. -/
theorem test_host_transactions :
    (afterAll (hostTransaction (quiet [0x06]) []) base).mem.latch = .set ∧
      (afterAll (hostTransaction (quiet [0x06, 0x00]) []) base).mem.latch = .clear ∧
      (afterAll (hostTransaction (quiet [0x06]) [] ++ hostTransaction (quiet [0x02, 0x00, 0x00, 0x03, 0x2A]) []) base).plan.shadow =
        [(3, 0x2A)] := by decide
/-- R3: after an unrecognised command the memory receives every byte and bit of the host, and the host every one of the memory. -/
theorem test_unrecognised_is_forwarded :
    let t := afterAll (hostTransaction [⟨0x9F, 0xA1⟩, ⟨0x11, 0xA2⟩, ⟨0x22, 0xA3⟩] [⟨true, false⟩]) base
    t.mem.wire = ⟨[0x9F, 0x11, 0x22], [true]⟩ ∧ t.mem.sdoU = ⟨[0xA1, 0xA2, 0xA3], [false]⟩ ∧ t.mem.wire.clocks = 25 := by decide
/-- R7: WRITE DISABLE. -/
theorem test_write_disable :
    (after (.hostTransactionEnd []) (after (.writeDisable [] 0) (latched .set (inTxn (.tracked fresh) base)))).mem.latch = .clear := by
  decide
/-- R4: READ STATUS leaves both mirrors. -/
theorem test_read_status : (after (.readStatus [⟨0, 0x0C⟩] 0) (inTxn (.tracked fresh) base)).mem.prot = .level 0 := by decide
/-- R8, R189: bits 3:2 of 0x0C are 3. -/
theorem test_write_status :
    (after (.writeStatus (quiet [0x0C]) 0) (latched .set (inTxn (.tracked fresh) base))).mem.prot = .level 3 := by decide
/-- Section 1.6.1: two bytes of the memory, then layout version 1 and reset cause PIN. -/
theorem test_read_across_live_boundary :
    let t := after (.read [⟨0x00, 0x9A⟩, ⟨0x4F, 0x9B⟩, ⟨0xFE, 0x9C⟩, ⟨0, 0xAA⟩, ⟨0, 0xBB⟩, ⟨0, 0xCC⟩, ⟨0, 0xDD⟩] 0x99) (inTxn (.tracked fresh)
      (base.setMem { base.mem with size := 0x10000, base := 0x4000, cause := .pin }))
    t.mem.sdoU.bytes = [0x99, 0x9A, 0x9B, 0x9C, 0xAA, 0xBB, 1, 3] ∧
      (after (.hostTransactionEnd (clocked 7)) t).mem.sdoU.bits = [false, false, false, false, false, false, false] := by decide
/-- Section 1.4.1: with level 1 in 32 KiB, data byte 1 at 0x7FFF does not land and data byte 2 lands at offset 0. -/
theorem test_write_wraps_and_lands :
    let s := inTxn (.tracked { writing 0x7FFE with pos := 1 }) (base.setMem { base.mem with prot := .level 1 })
    (after (.landedByte ⟨0xBB, 0⟩) s).plan.shadow = [] ∧
      (after (.landedByte ⟨0x47, 0⟩) (after (.landedByte ⟨0xBB, 0⟩) s)).plan.shadow = [(0, 0x47)] := by decide
/-- R9: the write's latch is the latch mirror at the command byte. -/
theorem test_write_latch :
    (after (.write (quiet [0x01, 0x80, 0x03]) 0) (latched .set (inTxn (.tracked fresh) base))).mem.txn =
      .tracked { writing 0x018003 with clocks := 32 } := by decide
/-- R12. -/
theorem test_unrecognised :
    (after (.unrecognisedCommand ⟨0x9F, 0⟩ []) (latched .set (inTxn (.tracked fresh) base))).mem.doubt = true ∧
      (after (.unrecognisedCommand ⟨0x9F, 0⟩ []) (inTxn (.tracked fresh) base)).mem.doubt = false := by decide
/-- R187: a landed acknowledge equal to the attention number releases ATTN#. -/
theorem test_landed_acknowledge :
    (after (.landedByte ⟨2, 0⟩) (inTxn (.tracked (writing 0x0C01)) base)).pins.attn = false := by decide
/-- Section 4.5.1: with consumer count 31 and a RELOAD in flight, producer 50 has claim 19 and is an over-claim. -/
theorem test_landed_over_claim :
    (after (.landedByte ⟨50, 0⟩) (inTxn (.tracked (writing 0x0C00)) (base.setReq { base.req with
      producer := 33, consumer := 31, inFlight := some ⟨31, 0x22⟩ }))).req.overrun = 1 := by decide
/-- R17, R189: bits 3:2 of the status byte 0x08 are 2, and the shadow takes the bytes read. -/
theorem test_sequence_bus_free :
    (after (.sequenceBusFree 0x08 [0, 7]) State.reset).mem.prot = .level 2 ∧
      (after (.sequenceBusFree 0x08 [0, 7]) State.reset).plan.shadow = [(1, 7)] := by decide
/-- R67: at the end of a load both counts take the shadow byte at 0x0C00. -/
theorem test_sequence_end :
    let s := (State.reset.setMem { State.reset.mem with seq := .running }).setPlan { PlanStore.afterReset with
      shadow := [(0x0C00, 30)] }
    (after .sequenceEnd s).req.consumer = 30 ∧ (after .sequenceEnd s).plan.check = .running := by decide

/-! ## Plan check, clock and requests -/

/-- Section 2.8.1: a stale check is discarded and restarts. -/
theorem test_stale_check :
    (after .planCheckCompletion (base.setPlan { base.plan with check := .stale, pendingEdits := true })).plan.restarts = 1 := by
  decide
/-- R33: an empty memory is refused with MAGIC at offset 0. -/
theorem test_refused_magic :
    let t := after .planCheckCompletion (State.reset.setPlan { PlanStore.afterReset with check := .running })
    t.plan.lastResult = .refused .magic ∧ t.plan.lastOffset = 0 ∧
      t.faults.entries.map (·.code) = [.clockInvalid, .noPlan] := by decide
/-- R50: Sunday 23:59:59 is followed by Monday 00:00:00. -/
theorem test_run_second_wraps_the_week :
    let t := after .runSecond (clkIs (fun c => { c with day := 6, minute := 1439, second := 59 }) base)
    t.clk.day = 0 ∧ t.clk.minute = 0 ∧ t.clk.second = 0 := by decide
/-- Section 3.5.1: Monday 400 gives COMFORT, target 336. -/
theorem test_minute_tick_comfort :
    (after .minuteTick (clkIs (fun c => { c with minute := 400, tickDue := true }) base)).clk.target[4] = 336 := by decide
/-- Section 3.5.1: Monday 180 carries Saturday's FROST, target 112. -/
theorem test_minute_tick_carried :
    (after .minuteTick (clkIs (fun c => { c with minute := 180, tickDue := true }) base)).clk.target[4] = 112 := by decide
/-- R50: a tick taken before the run second that rolls the clock evaluates the old minute, 389, with Saturday's FROST, and the new
minute, with COMFORT, is first evaluated at the next tick. -/
theorem test_minute_tick_before_the_roll :
    let s := clkIs (fun c => { c with minute := 389, second := 59, tickCounter := 59 }) base
    (after .runSecond (after .minuteTick s)).clk.level[4] = some .frost ∧
      (after .minuteTick (after .runSecond (after .minuteTick s))).clk.level[4] = some .frost ∧
      (after .minuteTick (after .runSecond s)).clk.level[4] = some .comfort := by decide
/-- Section 4.5.2, tick 3: the entry with 1 minute expires and the suspended one takes over with its comfort setpoint. -/
theorem test_override_expiry :
    let s := (clkIs (fun c => { c with tickDue := true, ageDue := true }) base).setOvr
      ⟨[⟨7, 0x10, 4, .level .comfort, 118⟩, ⟨8, 0x10, 2, .setpoint 40, 1⟩], 9⟩
    (after .overrideExpiry s).ovr.entries = [⟨7, 0x10, 4, .level .comfort, 117⟩] ∧
      (after .overrideExpiry s).clk.target[4] = 336 := by decide
/-- Section 4.5.1, count 30: SET CLOCK to day 2, minute 1020. -/
theorem test_set_clock :
    let t := after .setClock (request [1, 0x21, 2, 0xFC, 3] base)
    t.clk.day = 2 ∧ t.clk.minute = 1020 ∧ t.req.results[14] = ⟨0x21, .done, 0, 30⟩ ∧ t.req.consumer = 31 := by decide
/-- R70: a day above 6 and a minute above 1439 refuse with detail 1. -/
theorem test_set_clock_refused :
    (after .setClock (request [1, 0x21, 7, 0xA0, 5] base)).req.results[14] = ⟨0x21, .badParam, 1, 30⟩ := by decide
/-- R71, R76: the first entry after a reset receives id 1; the zone 1 that is not enabled leaves the mask. -/
theorem test_add_override :
    let t := after .addOverride (request [2, 0x23, 0x22, 0, 3, 1, 3, 90, 0] base)
    t.ovr.entries = [⟨1, 0x20, 3, .level .comfortPlus, 90⟩] ∧ t.clk.target[5] = 352 := by decide
/-- R191: a duration of 0 answers BADPARAM with detail 5. -/
theorem test_add_override_refused :
    (after .addOverride (request [2, 0x23, 0x22, 0, 3, 1, 3, 0, 0] base)).req.results[14] = ⟨0x23, .badParam, 5, 30⟩ := by decide
/-- R72: an unknown id answers NOTFOUND with the id. -/
theorem test_cancel_override :
    (after .cancelOverride (request [3, 0x24, 9] base)).req.results[14] = ⟨0x24, .notFound, 9, 30⟩ := by decide
/-- R174: with the limit 85 a held value of 1,200 answers TOOHOT with detail OVERHEAT. -/
theorem test_clear_lockout_too_hot :
    (after .clearLockout (request [4, 1] (linkIs (fun l => { l with entries := l.entries.set 2 (online 1200) })
      (heatIs (fun h => { h with state := .lockout, cause := .overheat }) base)))).req.results[14] = ⟨1, .tooHot, 2, 30⟩ := by
  decide
/-- R174: a held value of 1,199 allows the clear. -/
theorem test_clear_lockout_cool :
    (after .clearLockout (request [4, 1] (linkIs (fun l => { l with entries := l.entries.set 2 (online 1199) })
      (heatIs (fun h => { h with state := .lockout, cause := .overheat }) base)))).req.results[14] = ⟨1, .done, 2, 30⟩ := by
  decide
/-- R66: a RELOAD asserts BUSY# and stays in flight. -/
theorem test_reload :
    (after .reload (request [5, 0x22] base)).pins.busy = true ∧
      (after .reload (request [5, 0x22] base)).req.inFlight = some ⟨30, 0x22⟩ := by decide
/-- R191: a slot of zeros answers BADKIND with detail 0. -/
theorem test_unknown_kind : (after .unknownKind base).req.results[14] = ⟨0, .badKind, 0, 30⟩ := by decide

/-! ## Sensor link -/

/-- R84: a SAMPLE to address 9 carries 09h, 21h and D6h. -/
theorem test_poll_timer_expiry :
    ((after .pollTimerExpiry (linkIs (fun l => { l with pollExpiry := some 5000 }) base)).link.txn.map (·.frame)) =
      some [⟨0x09, true⟩, ⟨0x21, false⟩, ⟨0xD6, false⟩] := by decide
/-- R84: a LIMITS to address 9 with 78 and 82 carries 09h, 23h, E0h, 04h, 20h, 05h, CBh. -/
theorem test_pipe_unit_due :
    ((after .pipeUnitDue (linkIs (fun l => { l with limitsMark := true }) base)).link.txn.map (·.frame)) =
      some [⟨0x09, true⟩, ⟨0x23, false⟩, ⟨0xE0, false⟩, ⟨0x04, false⟩, ⟨0x20, false⟩, ⟨0x05, false⟩, ⟨0xCB, false⟩] := by
  decide
/-- A SAMPLE to address 3 (section 5.1). -/
def frame3 : List SentChar := [⟨0x03, true⟩, ⟨0x21, false⟩, ⟨0xDC, false⟩]
/-- A transaction with a room entry's unit that began at millisecond 5,000. -/
def exchange (e : Fin 16) (c : LinkCommand) (frame : List SentChar) (second : Bool) : LinkTransaction :=
  ⟨e, c, frame, second, false, false, 5000⟩
/-- A state with a transaction in progress. -/
def busy (x : LinkTransaction) (s : State) : State :=
  linkIs (fun l => { l with state := .busy, pollExpiry := some 5100, txn := some x }) s
/-- A SAMPLE to room entry 0 in progress. -/
def sampling (second : Bool) : State := busy (exchange 0 .sample frame3 second) base
/-- R87, R92: a contention is a miss, for a character where none was sent and for one that differs in its data, mark bit or framing. -/
theorem test_echo_mismatch :
    (after .echoMismatch (sampling false)).link.entries[0].state = .stale ∧
      ∀ c ∈ [(⟨0x02, true, true⟩ : LinkChar), ⟨0x03, false, true⟩, ⟨0x03, true, false⟩],
        (after (.echoMismatch (some 0) c) (sampling false)).link.contentions = 1 := by decide
/-- R87: a character that matches is no mismatch, and neither is one after SENDING, 3.44 ms long. -/
theorem test_echo_match :
    (after (.echoMismatch (some 0) ⟨0x03, true, true⟩) (sampling false)).link = (sampling false).link ∧
      (after .echoMismatch (inpIs (fun i => { i with time := 5005 }) (sampling false))).link = (sampling false).link := by decide
/-- R88: at the end of the pause the link chooses. -/
theorem test_contention_pause_end :
    (after .contentionPauseEnd (linkIs (fun l => { l with state := .paused, pauseEnds := 5000 }) base)).link.state = .busy := by
  decide
/-- R89: no reply to the first attempt is followed by a second, and none to the second is a miss. -/
theorem test_no_reply :
    (after .noReply (sampling false)).link.entries[0].misses = 0 ∧ (after .noReply (sampling true)).link.entries[0].misses = 1 := by
  decide
/-- Address, status and payload of a reply, with its check character. -/
def replies (l : List Byte) : Instr := .replyEnd (unmarked (withCheck l))
/-- R91: a REPORT of a room unit with type 1, and one with the type of an outdoor unit. -/
theorem test_reply_end_report :
    let s := busy (exchange 0 .report frame3 false) base
    (after (replies [3, 0, 0x38, 1, 0, 2, 1]) s).link.entries[0].supplyFlag = true ∧
      (after (replies [3, 0, 0x38, 1, 0, 2, 1]) s).link.entries[0].held = some 304 ∧
      (after (replies [3, 0, 0x38, 1, 0, 0, 2]) s).link.entries[0].typeFault = true ∧
      (after (replies [3, 0, 0x38, 1, 0, 0, 2]) s).faults.entries.map (·.code) = [.clockInvalid, .sensorType] := by decide
/-- A transaction with the pipe unit, entry 2 at address 9. -/
def piping (c : LinkCommand) : State := busy (exchange 2 c (requestFrame plan0 2 c) false) base
/-- R170, R177: with the correction 8, 1,304 is held as 1,312, the band 2, which stops the burner; 1,352 as 1,360, the overheat limit. -/
theorem test_reply_end_pipe :
    (after (replies [9, 0, 0x18, 5]) (piping .sample)).heat.cap = .cap2 ∧
      (after (replies [9, 0, 0x18, 5]) (piping .sample)).heat.state = .postrun ∧
      (after (replies [9, 0, 0x48, 5]) (piping .sample)).heat.cause = .overheat := by decide
/-- R100: a success of LIMITS clears the mark. -/
theorem test_reply_end_limits :
    (after (replies [9, 0]) (linkIs (fun l => { l with limitsMark := true }) (piping .limits))).link.limitsMark = false := by decide
/-- R93: a reading of 312 with correction −8 gives 304. -/
theorem test_reply_end :
    (after (.replyEnd ((withCheck [3, 0, 0x38, 1]).map fun b => ⟨b, false, true⟩)) (sampling true)).link.entries[0].held =
      some 304 := by decide
/-- R89: a mark bit of 1 makes the reply invalid. -/
theorem test_reply_end_marked :
    (after (.replyEnd ((withCheck [3, 0, 0x38, 1]).map fun b => ⟨b, true, true⟩)) (sampling true)).link.entries[0].state =
      .stale := by decide
/-- R103. -/
theorem test_noise : (after .noiseCharacter base).link.noise = 1 ∧ (after .noiseCharacter (sampling true)).link.noise = 0 := by
  decide

/-! ## Inputs -/

/-- R106: the first differing sample records a pending change. -/
theorem test_sample_event : (after (.sampleEvent 0x01) base).inp.pins[0].pending = some 5001 := by decide
/-- IN0 has been HIGH for its 2,000 ms (section 6.4.2). -/
def windowOpens : State := inpIs (fun i => { i with
  pins := i.pins.set 0 ⟨true, false, some 3000, false, 4⟩, windowEvents := i.windowEvents.set 5 4 }) base
/-- Section 6.4.2, 2,000 ms: OPEN, window events 5. -/
theorem test_debounced_level_change :
    (after (.debouncedLevelChange 0) windowOpens).reg[5].mode = .window ∧
      (after (.debouncedLevelChange 0) windowOpens).inp.windowEvents[5] = 5 := by decide
/-- Section 6.4.1, 19,400 ms: flow becomes late and the effective cap CAP1. -/
theorem test_flow_late :
    effectiveCap (after .flowLate (inpIs (fun i => { i with capture := 2200, watch := 2200 }) base)) = .cap1 := by decide
/-- Section 6.4.1, 27,200 ms: the firing heat source locks out with NOFLOW. -/
theorem test_flow_no_flow :
    (after .flowNoFlow (inpIs (fun i => { i with capture := 10000, watch := 2200, flow := ⟨true, false, false⟩ }) base)).heat.cause =
      .noFlow := by decide

/-! ## Zones and actuators -/

/-- Section 7.7.1: measured 312, integral 412, demand 85, on-time 80, not starved, calling. -/
theorem test_cycle_start :
    let g := (after (.cycleStart 4) base).reg[4]
    g.measured = some 312 ∧ g.integral = 412 ∧ g.demand = 85 ∧ g.onTime = 80 ∧ g.starved = false ∧ g.call = true := by decide
/-- Section 7.7.2: at the lower limits the integral and the demand are 0, and at the upper ones 4,080 and 255. -/
theorem test_regulation_limits :
    let r := { room 0 1 0 0 with kp := 64, ki := 32, deadband := 16 }
    (regulate r 112 (some 412) (regIn .running 300)).integral = 0 ∧ (regulate r 112 (some 412) (regIn .running 300)).demand = 0 ∧
      (regulate r 480 (some 160) (regIn .running 3800)).integral = 4080 ∧
      (regulate r 480 (some 160) (regIn .running 3800)).onTime = 240 := by decide
/-- Zone 6 of section 8.8: granted at 2,520 with end 2,620. -/
def granted : State := (clkIs (fun c => { c with runSeconds := 2620 }) base).updDrv 6 fun d => { d with
  request := .energised, cycleStart := some 2520, reqEnd := .at 2620, lastGrant := some 2520, energisedSince := 2520
  valve := .opening, moveStart := 2520, moveEnd := 2700 }
/-- Section 8.8: at 2,620, 100 s in, CLOSING until 2,720. -/
theorem test_end_event :
    let d := (after (.endEvent 6) granted).drv[6]
    d.request = .idle ∧ d.valve = .closing ∧ d.moveEnd = 2720 ∧ d.energisedTime = 100 := by decide
/-- Zone 4 waits in group 0 with its end at 10,160. -/
def waiting : State := (base.updDrv 4 fun d => { d with
  request := .waiting, cycleStart := some 10100, reqEnd := .at 10160 }).updGrp 0 fun g => { g with waitList := [4] }
/-- R148: the waiting request expires. -/
theorem test_waiting_request_expiry :
    (after (.waitingRequestExpiry 4) waiting).drv[4].request = .idle ∧ (after (.waitingRequestExpiry 4) waiting).grp[0].waitList = [] := by
  decide
/-- R145, R147: at the age 30 an entry leaves, and the head of the list is granted. -/
theorem test_inrush_entry_leaves :
    let s := (waiting.updDrv 4 fun d => { d with reqEnd := .at 10300 }).updGrp 0 fun g => { g with inrush := [10130, 10140] }
    (after (.inrushEntryLeaves 0) s).grp[0].inrush = [10140, 10160] ∧
      (after (.inrushEntryLeaves 0) s).drv[4].request = .energised ∧ (after (.inrushEntryLeaves 0) s).pins.act = 0x0003 := by
  decide
/-- R151: a valve reaches OPEN at its movement end. -/
theorem test_movement_end :
    (after (.movementEnd 6) (clkIs (fun c => { c with runSeconds := 2700 }) granted)).drv[6].valve = .open := by decide

/-! ## Heat source -/

/-- Section 6.4.1, 15,000 ms: with established flow the expiry leads to FIRING. -/
theorem test_prerun_timer_expiry :
    (after .prerunTimerExpiry (heatIs (fun h => { h with state := .prerun, prerunExpiry := some 10160 }) base)).pins.burn =
      true := by decide
/-- Section 9.10.2, 0:15: without it the heat source locks out, with the retry in 900 s. -/
theorem test_prerun_timer_expiry_no_flow :
    (after .prerunTimerExpiry (inpIs (fun i => { i with flow := ⟨false, false, false⟩ })
      (heatIs (fun h => { h with state := .prerun, prerunExpiry := some 10160 }) base))).heat.retryExpiry = some 11060 := by decide
/-- R171: PUMP off, then OFF with no served service. -/
theorem test_postrun_timer_expiry :
    (after .postrunTimerExpiry (heatIs (fun h => { h with
      state := .postrun, postrunExpiry := some 10160, inService := [] }) base)).heat.state = .off := by decide
/-- R174: the lockout pump run ends. -/
theorem test_lockout_pump_run_end :
    (after .lockoutPumpRunEnd (heatIs (fun h => { h with
      state := .lockout, cause := .overheat, pumpRunExpiry := some 10160, div := true }) base)).pins.pump = false := by decide
/-- Section 9.10.2, 15:15: the retry count rises to 1 and the lockout ends. -/
theorem test_retry_timer_expiry :
    let t := after .retryTimerExpiry (heatIs (fun h => { h with
      state := .lockout, cause := .noFlow, retryExpiry := some 10160, inService := [] }) base)
    t.heat.retryCount = 1 ∧ t.heat.state = .off := by decide
/-- HELD for HEATING with an OPEN valve, the last stop 300 s ago. -/
def held : State := (heatIs (fun h => { h with state := .held, hold := .minOff, lastStop := 9860 }) base).updDrv 6 fun d =>
  { d with valve := .open }
/-- R165, R166: min_off passes at 5 minutes, and permission leads to PRERUN. -/
theorem test_min_off_passing : (after .minOffPassing held).heat.state = .prerun := by decide
/-- R169: no served service when min_on passes. -/
theorem test_min_on_passing :
    (after .minOnPassing (heatIs (fun h => { h with inService := [], burnerStart := 9980 }) base)).heat.state = .postrun := by
  decide
/-- R168: an entry leaves at the age 3,600. -/
theorem test_ignition_entry_leaves :
    (after .ignitionEntryLeaves (heatIs (fun h => { h with ignitions := [6560, 6561] }) base)).heat.ignitions = [6561] := by decide
/-- R168: the retry count becomes 0 after 600 s. -/
theorem test_firing_run_600s :
    (after .firingRun600s (heatIs (fun h => { h with retryCount := 2, burnerStart := 9560 }) base)).heat.retryCount = 0 := by decide
/-- CYLINDER served before HEATING, with the timer at 2,700 (section 9.10.1, minute 55). -/
def cylinderLong : State := (heatIs (fun h => { h with
  inService := [.cylinder, .heating], cylTimer := 2700, div := true }) base).updReg 11 fun g => { g with latch := true, call := true }
/-- Section 9.10.1, minute 55: HEATING is served, DIV off, the timer 0, and the block runs 30 minutes. -/
theorem test_cylinder_timeout :
    let t := after .cylinderTimeout cylinderLong
    t.heat.inService = [.heating] ∧ t.pins.div = false ∧ t.heat.cylTimer = 0 ∧ t.heat.cylBlock = some 11960 := by decide
/-- Section 9.10.1, minute 85: the block expires with the latch set, and CYLINDER is served again with target 1,120. -/
theorem test_cylinder_block_expiry :
    let t := after .cylinderBlockExpiry ((heatIs (fun h => { h with cylBlock := some 10160 }) base).updReg 11 fun g =>
      { g with latch := true })
    t.heat.inService = [.cylinder, .heating] ∧ t.heat.flowTarget = 1120 ∧ t.pins.div = true := by decide
/-- Section 9.8.1, ordinary heating: the default outdoor value −80 gives the target 866 and the duty 140. -/
theorem test_outdoor_hold_expiry :
    let t := after .outdoorHoldExpiry (clkIs (fun c => { c with target := c.target.set 6 320 }) (linkIs (fun l => { l with
      entries := l.entries.set 3 { online 100 with state := .lost } })
      (heatIs (fun h => { h with outdoorHold := some 6560, flowTarget := 0, duty := 0 }) base)))
    t.heat.flowTarget = 866 ∧ t.heat.duty = 140 := by decide

/-! ## What meets the hypotheses of the statements

One theorem per statement, named after it; where the clauses of a statement exclude each other by a value, the values stand at the ends
of the ranges. -/

/-- `base` with its pins and fault list settled. -/
def settled : State := after .noiseCharacter base

/-- The nonzero bytes of the smallest plan that the check adopts: no zone, no pipe or outdoor unit, no flow input. -/
def cells0 : List Host.Cell :=
  [(0, 0x47), (1, 0x53), (2, 1), (3, 7), (5, 255), (6, 255), (7, 255), (8, 255), (9, 255), (0x1D, 255)]

/-- The nonzero bytes of a plan with the room zone 4 of `plan0`, a new room zone 0 and a cylinder zone 1, an input of role SUPPLY_LOW, one
of role WINDOW for zone 4, and four sensor entries of which the first is that of `plan0`. -/
def cells1 : List Host.Cell :=
  [(0, 0x47), (1, 0x53), (2, 1), (3, 7), (5, 255), (6, 255), (7, 255), (8, 2), (9, 255), (0x1D, 255)] ++
    [(0x40, 1), (0x42, 1), (0x43, 4), (0x46, 14), (0x47, 34), (0x48, 42), (0x49, 44)] ++
    [(0x60, 1), (0x61, 1), (0x62, 5), (0x66, 20), (0x67, 100), (0x68, 120), (0x69, 140)] ++
    [(0xC0, 1), (0xC3, 3), (0xC6, 14), (0xC7, 34), (0xC8, 42), (0xC9, 44), (0xD4, 2)] ++
    [(0x1E0, 4), (0x1E3, 0x10), (0x1E4, 1), (0x1E5, 1), (0x200, 1), (0x201, 3), (0x210, 1), (0x211, 7), (0x220, 1), (0x221, 9), (0x222, 2)] ++
    [(0x250, 1), (0x251, 6), (0x252, 3)]

/-- A shadow and a running check. -/
def checking (cells : List Host.Cell) (s : State) : State := s.setPlan { s.plan with shadow := cells, check := .running }

/-- A check of a shadow with a RELOAD in flight. -/
def reloading (cells : List Host.Cell) : State := checking cells (base.setReq { base.req with inFlight := some ⟨30, 1⟩ })

/-- No plan is adopted. -/
def noPlan (s : State) : State := s.setPlan { s.plan with active := none }

/-- A list of 16 overrides of zone 4. -/
def fullOverrides : OverrideList := ⟨(List.range 16).map fun k => ⟨k + 1, 0x10, 4, .level .eco, 5⟩, 16⟩

/-- Overrides of zone 4 that end at the next tick and after it. -/
def someOverrides : OverrideList := ⟨[⟨7, 0x10, 4, .level .comfort, 118⟩, ⟨8, 0x10, 2, .setpoint 40, 1⟩], 9⟩

theorem witness_StepTakesTheFrontCommand :
    base.pending = [] ∧ (base.setPending [.runSecond, .minuteTick]).pending = .runSecond :: [.minuteTick] := by decide
theorem witness_CommandsLeaveTheQueue : ∃ t, exec .runSecond (base.setPending [.minuteTick]) = .next t := ⟨_, rfl⟩
theorem witness_EveryStepSettles :
    Settled (settled.setPending [.cycleStart 4]) ∧ ∃ t, step (settled.setPending [.cycleStart 4]) = .next t :=
  ⟨by unfold Settled FaultListWf; decide, _, rfl⟩
theorem witness_EveryStepKeepsTheOverrideList :
    OverrideListWf ((base.setOvr someOverrides).setPending [.minuteTick]).ovr ∧
      OverridesFit ((base.setOvr someOverrides).setPending [.minuteTick]) ∧
      ∃ t, step ((base.setOvr someOverrides).setPending [.minuteTick]) = .next t :=
  ⟨by unfold OverrideListWf; decide, fun e he => ⟨by revert e; decide, plan0, rfl, by revert e; decide⟩, _, rfl⟩

/-- Zone 4 waits, and zone 6 is energised. -/
def busyGroups : State := waiting.updDrv 6 fun d => { d with
  request := .energised, cycleStart := some 10100, reqEnd := .at 10160, valve := .opening, moveStart := 10100, moveEnd := 10280 }
/-- The groups of `busyGroups` are in order. -/
theorem busyGroups_in_order : GroupsInOrder busyGroups := by
  unfold GroupsInOrder waitsIn
  intro p hp
  cases show some plan0 = some p from hp
  decide
/-- The groups of `base` are in order. -/
theorem base_in_order : GroupsInOrder base := by
  unfold GroupsInOrder waitsIn
  intro p hp
  cases show some plan0 = some p from hp
  decide

/-- The wait lists of `busyGroups` are in order. -/
theorem busyGroups_ordered : WaitListsOrdered busyGroups := by
  unfold WaitListsOrdered
  intro p hp
  cases show some plan0 = some p from hp
  decide

theorem witness_EveryStepKeepsTheGroupsInOrder :
    GroupsInOrder (busyGroups.setPending [.endEvent 6]) ∧ WaitListsOrdered (busyGroups.setPending [.endEvent 6]) ∧
      (∃ t, step (busyGroups.setPending [.endEvent 6]) = .next t) ∧
      (GroupsInOrder (base.setPending [.cycleStart 4]) ∧ base.drv[4].request ≠ .energised ∧ isRoom plan0 4 = true ∧
        ∃ t, step (base.setPending [.cycleStart 4]) = .next t ∧ t.plan.active = some plan0 ∧ t.drv[4].request = .energised) :=
  ⟨busyGroups_in_order, busyGroups_ordered, ⟨_, rfl⟩, base_in_order, by decide, by decide, _, rfl, rfl, by decide⟩
/-- PRERUN at the expiry of its timer, with the path and the min_off of `held`. -/
def prerunning : State := heatIs (fun h => { h with state := .prerun, prerunExpiry := some 10160 }) held
/-- A burner that fires, and a PRERUN from which a step enters FIRING. -/
theorem witness_EveryStepGuardsTheBurner :
    (BurnerGuard (base.setPending [.minOnPassing]) ∧ burnerRuns base ∧ ∃ t, step (base.setPending [.minOnPassing]) = .next t) ∧
      BurnerGuard (prerunning.setPending [.prerunTimerExpiry]) ∧ prerunning.heat.state ≠ .firing ∧
      ∃ t, step (prerunning.setPending [.prerunTimerExpiry]) = .next t ∧ t.heat.state = .firing :=
  ⟨⟨⟨fun _ => ⟨plan0, rfl, by decide, by decide⟩, fun h => absurd h (by decide)⟩, Or.inr rfl, _, rfl⟩,
    ⟨fun _ => ⟨plan0, rfl, by decide, by decide⟩, fun _ => ⟨plan0, rfl, .heating, rfl, by decide⟩⟩, by decide, _, rfl, by decide⟩

/-- With the zones of `base` and no FROST call, HEATING alone calls. -/
theorem only_heating_calls (s : State) (g : s.reg = base.reg) (r : s.heat.frostCall = false) (v : Service)
    (hv : ServiceCalls plan0 s v) : v = .heating := by
  cases v with
  | frost => exact absurd (r.symm.trans hv) (by decide)
  | cylinder => exact absurd hv.2 (by rw [g]; decide)
  | heating => rfl
/-- With the zones of `base` the services are in order where HEATING alone is listed. -/
theorem heating_in_order (s : State) (a : s.plan.active = some plan0) (g : s.reg = base.reg) (h : s.heat.inService = [.heating])
    (b : s.heat.cylBlock = none) (r : s.heat.frostCall = false) : ServicesInOrder s := by
  refine ⟨fun hp => (nomatch a.symm.trans hp), fun p hp => ?_⟩
  cases a.symm.trans hp
  have calls : ServiceCalls plan0 s .heating := ⟨6, by decide, g ▸ show base.reg[(6 : Fin 12)].call = true by decide⟩
  refine ⟨by decide, ?_, ?_, ?_, fun hb => absurd b hb⟩
  · exact (congrArg (List.Pairwise _) h).mpr (List.pairwise_singleton _ _)
  · intro v hv
    cases List.mem_singleton.mp (h ▸ hv : v ∈ [Service.heating])
    exact calls
  · intro v hv
    cases only_heating_calls s g r v hv
    exact ⟨.heating, show s.heat.inService.head? = _ by rw [h]; rfl, Nat.le_refl _⟩
/-- `base` with an empty in-service list and no call. -/
def uncalled : State := (heatIs (fun h => { h with inService := [], div := true }) base).updReg 6 fun g => { g with call := false }
/-- No service calls in `uncalled`. -/
theorem uncalled_in_order : ServicesInOrder uncalled := by
  refine ⟨fun hp => absurd hp (by decide), fun p hp => ?_⟩
  cases show some plan0 = some p from hp
  refine ⟨by decide, List.Pairwise.nil, fun v hv => absurd hv (List.not_mem_nil), fun v hv => ?_, fun hb => absurd rfl hb⟩
  cases v with
  | frost => exact absurd hv (show ¬uncalled.heat.frostCall = true by decide)
  | cylinder => exact absurd hv.2 (show ¬∃ z : Fin 12, isCylinder plan0 z = true ∧ uncalled.reg[z].call = true by decide)
  | heating => exact absurd hv (show ¬∃ z : Fin 12, isRoom plan0 z = true ∧ uncalled.reg[z].call = true by decide)
/-- The cycle start of zone 6, whose target is below its measured value, before min_on. -/
def leaving : State := clkIs (fun c => { c with runSeconds := 10200, target := c.target.set 6 200 })
  (heatIs (fun h => { h with burnerStart := 10100 }) base)
/-- FIRING for HEATING and its stop, FIRING with no service, the last service's leaving, POSTRUN, and the pump run of OVERHEAT. -/
theorem witness_EveryStepServesByPriority :
    (ServicesInOrder base ∧ DivFollows base ∧ base.heat.state = .firing ∧
      ∃ t, step (base.setPending [.minOnPassing]) = .next t) ∧
    (let s := heatIs (fun h => { h with burnerStart := 9980 }) base
     ServicesInOrder s ∧ DivFollows s ∧ ∃ t, step (s.setPending [.minOnPassing]) = .next t ∧ t.heat.state = .postrun ∧
       served t = served s ∧ t.plan.active = s.plan.active) ∧
    (ServicesInOrder uncalled ∧ DivFollows uncalled ∧ ∃ t, step (uncalled.setPending [.runSecond]) = .next t ∧
      uncalled.heat.state = .firing ∧ served uncalled = none ∧ t.heat.state = .firing ∧ served t = none) ∧
    (ServicesInOrder leaving ∧ DivFollows leaving ∧ leaving.heat.state = .firing ∧
      (∀ p v, leaving.plan.active = some p → ServiceCalls p leaving v → served leaving = some v) ∧
      ∃ t, step (leaving.setPending [.cycleStart 6]) = .next t ∧ t.heat.state = .firing ∧ served t = none) ∧
    (let s := heatIs (fun h => { h with state := .postrun, div := true }) base
     ServicesInOrder s ∧ DivFollows s ∧ ∃ t, step (s.setPending [.runSecond]) = .next t ∧ s.heat.state = .postrun ∧
       t.heat.state = .postrun) ∧
    (let s := heatIs (fun h => { h with
       state := .lockout, cause := .overheat, pumpRunExpiry := some 10200, div := true }) base
     ServicesInOrder s ∧ DivFollows s ∧ ∃ t, step (s.setPending [.runSecond]) = .next t ∧ s.heat.state = .lockout ∧
       t.heat.state = .lockout ∧ t.heat.pumpRunExpiry.isSome = true) := by
  have follows (s : State) (hs : s.plan.active = some plan0) (hv : served s = some .heating ∨ served s = none)
      (off : s.heat.state = .firing → served s = some .heating → s.heat.div = false)
      (st : s.heat.state = .firing ∨ s.heat.state = .postrun ∨
        (s.heat.state = .lockout ∧ s.heat.cause = .overheat ∧ s.heat.pumpRunExpiry.isSome = true)) : DivFollows s := by
    refine ⟨fun h => ?_, fun h n => ?_, fun p v hp hsv hst => ?_⟩
    · rcases st with a | a | ⟨a, -⟩ <;> exact absurd (a.symm.trans h) (by decide)
    · rcases st with a | a | ⟨-, b⟩
      · exact absurd (a.symm.trans h) (by decide)
      · exact absurd (a.symm.trans h) (by decide)
      · exact absurd b n
    · rcases hv with a | a
      · cases a.symm.trans hsv
        rcases st with b | b | ⟨b, -⟩
        · exact ⟨fun d => absurd (d.symm.trans (off b a)) (by decide), False.elim⟩
        · rcases hst with c | c | c <;> exact absurd (b.symm.trans c) (by decide)
        · rcases hst with c | c | c <;> exact absurd (b.symm.trans c) (by decide)
      · exact absurd (a.symm.trans hsv) (by simp)
  refine ⟨⟨heating_in_order _ rfl rfl rfl rfl rfl, follows _ rfl (.inl rfl) (fun _ _ => rfl) (.inl rfl), rfl, _, rfl⟩,
    ⟨heating_in_order _ rfl rfl rfl rfl rfl, follows _ rfl (.inl rfl) (fun _ _ => rfl) (.inl rfl), _, rfl, by decide, by decide, rfl⟩,
    ⟨uncalled_in_order, follows _ rfl (.inr rfl) (fun _ h => absurd h (by decide)) (.inl rfl), _, rfl, rfl, rfl, by decide, by decide⟩,
    ⟨heating_in_order _ rfl rfl rfl rfl rfl, follows _ rfl (.inl rfl) (fun _ _ => rfl) (.inl rfl), rfl, fun p v hp hv => by
      cases show some plan0 = some p from hp
      exact congrArg some (only_heating_calls leaving rfl rfl v hv).symm, _, rfl, by decide, by decide⟩,
    ⟨heating_in_order _ rfl rfl rfl rfl rfl, follows _ rfl (.inl rfl) (fun h => absurd h (by decide)) (.inr (.inl rfl)), _, rfl, rfl, by decide⟩,
    heating_in_order _ rfl rfl rfl rfl rfl, follows _ rfl (.inl rfl) (fun h => absurd h (by decide)) (.inr (.inr ⟨rfl, rfl, rfl⟩)), _, rfl, rfl,
    by decide, by decide⟩
/-- Section 9.10.1, minute 0: CYLINDER calls with HEATING served and preempts it, and DIV turns on (R159, R162). -/
theorem test_cylinder_preempts_heating :
    let t := after (.cycleStart 11) (clkIs (fun c => { c with runSeconds := 10300 })
      (linkIs (fun l => { l with entries := l.entries.set 5 (online 900) }) base))
    t.heat.inService = [.cylinder, .heating] ∧ t.pins.div = true := by decide

theorem witness_PlanStoreAtEveryReset :
    State.reset.mem.seq = .waiting ∧ State.reset.mem.txn = .idle ∧ (List.replicate 3328 (0 : Byte)).length = 3328 ∧
      (after (.sequenceBusFree 0 []) State.reset).mem.seq = .running :=
  ⟨rfl, rfl, List.length_replicate, by decide⟩
theorem witness_BlocksAtEveryReset :
    (ResetKind.power ≠ .pin ∧ ResetKind.supply ≠ .pin) ∧ base.mem.txn = .idle ∧
      ((inTxn (.tracked fresh) base).mem.txn ≠ .idle ∧ (inTxn (.tracked fresh) base).mem.txn ≠ .held) := by decide
/-- R20, R105, R117, R188: a pin reset under a forwarded transaction and under none. -/
theorem test_pin_reset_blocks :
    (after .pinReset (inTxn (.tracked fresh) base)).pins.csM = true ∧ (after .pinReset base).pins.csM = false ∧
      (after .pinReset base).faults.entries = [] ∧ (after .pinReset base).inp.flow = ⟨false, false, false⟩ ∧
      (after .pinReset base).heat.ignitions = [10000] := by decide
theorem witness_ResetCause :
    (base.mem.inReset = none ∧ [ResetKind.pin, .supply] ≠ []) ∧ (∀ w, Instr.pinReset ≠ .resetEnd w) ∧
      ∃ t, exec .pinReset base = .next t := by
  refine ⟨by decide, ?_, _, rfl⟩
  intro w h
  cases h
theorem witness_ResetEndSamplesTheStraps :
    (after .pinReset base).mem.inReset = some .pin ∧ Quiet (after .pinReset base) := ⟨by decide, rfl⟩

/-- A tracked transaction before its command byte, with the latch mirror CLEAR and SET. -/
theorem witness_WriteEnableAndDisable :
    ((inTxn (.tracked fresh) base).mem.txn = .tracked fresh ∧ fresh.cls = none ∧ Quiet (inTxn (.tracked fresh) base)) ∧
      (latched .set (inTxn (.tracked fresh) base)).mem.txn = .tracked fresh ∧ Quiet (latched .set (inTxn (.tracked fresh) base)) :=
  ⟨⟨rfl, rfl, rfl⟩, rfl, rfl⟩
theorem witness_WriteStatusSetsProtection :
    (latched .set (inTxn (.tracked fresh) base)).mem.txn = .tracked fresh ∧ fresh.cls = none ∧
      Quiet (latched .set (inTxn (.tracked fresh) base)) := ⟨rfl, rfl, rfl⟩
theorem witness_ReadAnswersFromTheLiveImage :
    (inTxn (.tracked fresh) base).mem.txn = .tracked fresh ∧ fresh.cls = none ∧ Quiet (inTxn (.tracked fresh) base) ∧
      (clocked 7).length < 8 ∧ (quiet [0, 0]).length < 3 := ⟨rfl, rfl, rfl, by decide, by decide⟩
/-- R192: the established bit reads 1 with no flow pulse input, as while no plan is adopted. -/
theorem test_established_bit_with_no_plan : flowBits State.reset = 2 := by decide
/-- A fall of CS_U# in a reset, while BUSY# is asserted and else; each kind of transaction, with a first command in the tracked one and a
data byte after a WRITE's address. -/
theorem witness_HeldAndForwardedTransactions :
    ((after .pinReset base).mem.txn = .idle ∧ Quiet (after .pinReset base) ∧ (after .pinReset base).mem.inReset ≠ none) ∧
      (State.reset.mem.txn = .idle ∧ Quiet State.reset ∧ State.reset.mem.inReset = none ∧ State.reset.mem.busy = true) ∧
      (base.mem.txn = .idle ∧ Quiet base ∧ base.mem.inReset = none ∧ base.mem.busy = false) ∧
    (isBusCommand (.read (quiet [0, 0, 0, 1]) 0) = true ∧ (Instr.read (quiet [0, 0, 0, 1]) 0).wellFormed = true) ∧
      (isBusCommand (.landedByte ⟨7, 0⟩) = true ∧ (Instr.landedByte ⟨7, 0⟩).wellFormed = true) ∧
      (Quiet (inTxn .held base) ∧ (inTxn .held base).mem.txn = .held) ∧
      (Quiet (inTxn .untracked base) ∧ (inTxn .untracked base).mem.txn = .untracked) ∧
      (Quiet (inTxn (.tracked fresh) base) ∧ comesNext fresh (.read (quiet [0, 0, 0, 1]) 0) = true ∧
        comesNext (writing 5) (.landedByte ⟨7, 0⟩) = true ∧ base.mem.image = none) :=
  ⟨⟨by decide, rfl, by decide⟩, ⟨rfl, rfl, rfl, rfl⟩, ⟨rfl, rfl, rfl, rfl⟩, ⟨by decide, by decide⟩, ⟨by decide, by decide⟩, ⟨rfl, rfl⟩,
    ⟨rfl, rfl⟩, rfl, rfl, rfl, rfl⟩
/-- R3: CS_M# follows CS_U#, and the memory gets the command, the address, the data byte and every clock of a WRITE. -/
theorem test_write_is_forwarded :
    let t := after .hostTransactionBegin base
    let v := after (.landedByte ⟨0x5A, 9⟩) (after (.write [⟨1, 6⟩, ⟨2, 7⟩, ⟨3, 8⟩] 5) t)
    let w := after (.hostTransactionEnd (clocked 3)) v
    t.pins.csM = true ∧ v.pins.csM = true ∧ w.mem.wire = ⟨[0x02, 1, 2, 3, 0x5A], [true, true, true]⟩ ∧
      w.mem.sdoU = ⟨[5, 6, 7, 8, 9], [false, false, false]⟩ ∧ w.pins.csM = false := by decide
/-- The last shadow offset lands and the next does not; level 1 frees the address 0x5FFF and protects 0x6000. -/
theorem witness_WriteLandsItsBytes :
    ((inTxn (.tracked fresh) base).mem.txn = .tracked fresh ∧ fresh.cls = none ∧ Quiet (inTxn (.tracked fresh) base)) ∧
      (∀ a, (inTxn (.tracked (writing a)) base).mem.txn = .tracked (writing a) ∧ (writing a).cls = some .write ∧
        (writing a).addr = some a ∧ Shadow.wf (inTxn (.tracked (writing a)) base).plan.shadow = true ∧
        Quiet (inTxn (.tracked (writing a)) base)) ∧ (quiet [0x01, 0x80]).length < 3 ∧
      (0x0CFF % base.mem.size < base.mem.base + 0x0D00 ∧ ¬0x0D00 % base.mem.size < base.mem.base + 0x0D00) ∧
      (0x5FFF < 3 * base.mem.size / 4 ∧ ¬0x6000 < 3 * base.mem.size / 4) :=
  ⟨⟨rfl, rfl, rfl⟩, fun _ => ⟨rfl, rfl, rfl, rfl, rfl⟩, by decide, by decide, by decide⟩
/-- R9: a WRITE that lands its byte, and one that ends after two address bytes, leave the latch mirror CLEAR. -/
theorem test_write_clears_the_latch :
    let s := latched .set (inTxn (.tracked fresh) base)
    (afterAll [.write (quiet [0, 0, 3]) 0, .landedByte ⟨7, 0⟩, .hostTransactionEnd []] s).mem.latch = .clear ∧
      (afterAll [.write (quiet [0, 0]) 0, .hostTransactionEnd []] s).mem.latch = .clear ∧
      (afterAll [.write (quiet [0, 0]) 0, .hostTransactionEnd []] s).plan.shadow = [] := by decide
/-- The offsets at which the triggers change, and the claims 0, 1, 16 and 17. -/
theorem witness_LandedByteTriggers :
    (∀ a, (inTxn (.tracked (writing a)) base).mem.txn = .tracked (writing a) ∧ (writing a).cls = some .write ∧
      (writing a).addr = some a ∧ (writing a).latchWasSet = true ∧ (inTxn (.tracked (writing a)) base).mem.prot = .level 0 ∧
      Quiet (inTxn (.tracked (writing a)) base)) ∧
    (∀ o ∈ [0x0000, 0x0003, 0x0AFF, 0x0B00, 0x0BFF, 0x0C00, 0x0C01, 0x0C02, 0x1FFF],
      windowOffset base.mem (o % base.mem.size) = some o) ∧
    (base.mem.seq = .idle ∧ (after .reload (request [5] base)).mem.seq ≠ .idle) ∧ base.req.synced = true ∧
    ((30 : Byte) - base.req.consumer).toNat = 0 ∧ ((31 : Byte) - base.req.consumer).toNat = 1 ∧
    ((46 : Byte) - base.req.consumer).toNat = 16 ∧ ((47 : Byte) - base.req.consumer).toNat = 17 ∧
    base.req.inFlight = none ∧ (after .reload (request [5] base)).req.inFlight ≠ none ∧
    (base.plan.check = .idle ∧ (checking [] base).plan.check ≠ .idle) ∧ State.reset.req.synced = false :=
  ⟨fun _ => ⟨rfl, rfl, rfl, rfl, rfl, rfl⟩, by decide⟩
theorem witness_ForwardedCommands :
    (latched .set (inTxn (.tracked fresh) base)).mem.txn = .tracked fresh ∧ fresh.cls = none ∧
      Quiet (latched .set (inTxn (.tracked fresh) base)) ∧ (Instr.unrecognisedCommand ⟨0x9F, 0⟩ []).wellFormed = true ∧
      (0x9F : Byte) ∉ ([0x06, 0x04, 0x05, 0x01, 0x03, 0x02] : List Byte) :=
  ⟨rfl, rfl, rfl, by decide, by decide⟩
theorem witness_SequenceReadsTheShadow :
    State.reset.mem.seq = .waiting ∧ State.reset.mem.txn = .idle ∧ (List.replicate 3328 (0 : Byte)).length = 3328 ∧
      Quiet State.reset := ⟨rfl, rfl, List.length_replicate, rfl⟩
/-- R17: the controller's own transactions at the base 0x4000, with CS_M# low until step 6. -/
theorem test_sequence_reads_at_the_base :
    let t := after (.sequenceBusFree 0x0C []) (State.reset.setMem { State.reset.mem with base := 0x4000 })
    t.mem.own = [⟨[0x04], 8⟩, ⟨[0x05], 16⟩, ⟨[0x03, 0x00, 0x40, 0x00], 26656⟩] ∧ t.pins.csM = true ∧
      (after .sequenceEnd t).pins.csM = false := by decide
/-- A load without and with a retained lockout, and a reload. -/
theorem witness_SequenceEndStartsACheck :
    let run (r : Bool) := base.setMem { base.mem with seq := .running, busy := true, reload := r }
    ((run false).mem.seq = .running ∧ Quiet (run false) ∧ (run false).mem.reload = false ∧ (run false).heat.cause = .none) ∧
      (heatIs (fun h => { h with cause := .noFlow, retryCount := 2 }) (run false)).heat.cause ≠ .none ∧
      (LockoutCause.noFlow, FaultCode.noFlow) ∈ [(LockoutCause.noFlow, FaultCode.noFlow), (.overheat, .overheat), (.boiler, .boilerFault)] ∧
      (run true).mem.seq = .running ∧ Quiet (run true) ∧ (run true).mem.reload = true :=
  ⟨⟨rfl, rfl, rfl, rfl⟩, by decide, by decide, rfl, rfl, rfl⟩
/-- R181: a retained OVERHEAT lockout is resumed with its fault and with PUMP and DIV off. -/
theorem test_resumed_lockout :
    let t := after .sequenceEnd (heatIs (fun h => { h with state := .off, cause := .overheat, div := true })
      (base.setMem { base.mem with seq := .running }))
    t.heat.state = .lockout ∧ t.pins.pump = false ∧ t.pins.div = false ∧ t.faults.entries.map (·.code) = [.clockInvalid, .overheat] := by
  decide

theorem witness_ReportedViolationIsLowest :
    reportedViolation plan0 = none ∧
      reportedViolation { plan0 with header := { header0 with version := 2, cylPriority := 0 } } = some ⟨0x02, .version⟩ := by
  decide
/-- A stale check, and a refusal under a plan, and with none for MAGIC and for another code. -/
theorem witness_RefusedAndStaleChecksKeepThePlan :
    ((base.setPlan { base.plan with check := .stale }).plan.check = .stale ∧
      Quiet (base.setPlan { base.plan with check := .stale })) ∧
    ((checking [] base).plan.check = .running ∧
      reportedViolation (workingPlan (storedPlan (checking [] base).plan.shadow)) = some ⟨0, .magic⟩ ∧
      (checking [] base).req.inFlight = none ∧ Quiet (checking [] base) ∧ (checking [] base).plan.active ≠ none) ∧
    (Quiet (noPlan (checking [] base)) ∧ (noPlan (checking [] base)).plan.active = none) ∧
    reportedViolation (workingPlan (storedPlan [(0, 0x47), (1, 0x53)])) = some ⟨2, .version⟩ :=
  ⟨⟨rfl, rfl⟩, ⟨rfl, by decide, rfl, rfl, by decide⟩, ⟨rfl, rfl⟩, by decide⟩
/-- An adoption without and with a RELOAD in flight. -/
theorem witness_AdoptionTakesTheCheckedPlan :
    (checking cells0 base).plan.check = .running ∧
      reportedViolation (workingPlan (storedPlan (checking cells0 base).plan.shadow)) = none ∧
      (checking cells0 base).req.inFlight = none ∧ Quiet (checking cells0 base) ∧ (reloading cells0).req.inFlight ≠ none :=
  ⟨rfl, by decide, rfl, rfl, by decide⟩
/-- The room zones 4 and 5 of `plan0` in a group 0 that admits 3 outputs. -/
def cells2 : List Host.Cell :=
  [(0, 0x47), (1, 0x53), (2, 1), (3, 7), (5, 255), (6, 255), (7, 255), (8, 2), (9, 255), (0x1D, 255)] ++
    [(0xC0, 1), (0xC3, 3), (0xC5, 3), (0xC6, 14), (0xC7, 34), (0xC8, 42), (0xC9, 44)] ++
    [(0xE0, 1), (0xE2, 1), (0xE3, 12), (0xE5, 1), (0xE6, 14), (0xE7, 34), (0xE8, 42), (0xE9, 44)] ++
    [(0x1C0, 3), (0x200, 1), (0x201, 3), (0x210, 1), (0x211, 4), (0x220, 1), (0x221, 9), (0x222, 2)]
/-- Zones 4 and 5 are energised and their valves OPEN. -/
def bothEnergised (s : State) : State :=
  let on (d : ZoneDrive) : ZoneDrive := { d with request := .energised, reqEnd := .at 10300, valve := .open, lastGrant := some 10000 }
  (s.updDrv 4 on).updDrv 5 on
/-- `plan0` with the rooms 4, 5 and 7 of 1, 2 and 2 outputs in a group 0 of a limit. -/
def plan1 (limit : Nat) : Plan := { plan0 with
  zones := ((plan0.zones.set 4 (room 0 0x0001 3 0)).set 5 (room 1 0x0006 1 0)).set 7 (room 0 0x0018 0 0)
  groups := plan0.groups.set 0 ⟨limit, 2, 30⟩ }
/-- All three are energised, only the valve of zone 4 is OPEN, and the request of zone 5 has ended. -/
def threeEnergised : State :=
  let on (v : ValveState) (e : Nat) (d : ZoneDrive) : ZoneDrive := { d with request := .energised, reqEnd := .at e, valve := v }
  ((((heatIs (fun h => { h with burnerStart := 9980 }) base).setPlan { base.plan with active := some (plan1 3) }).updDrv 4
    (on .open 10300)).updDrv 5 (on .closed 10160)).updDrv 7 (on .opening 10300)
/-- R42: of 5 energised outputs and a limit of 3, zone 4, of the numerically highest priority, and then zone 5 are de-energised and wait
in the order of R143, and zone 7 stays. -/
theorem test_group_limiting :
    let t := reconcileGroups (plan1 3) threeEnergised
    t.drv[4].request = .waiting ∧ t.drv[4].valve = .closing ∧ t.drv[7].request = .energised ∧ t.grp[0].waitList = [5, 4] := by
  decide
/-- `threeEnergised` after group limiting and the heat source's reconciliation. -/
def threeLimited : State := reconcileHeat (some (plan1 8)) (plan1 3) false (reconcileGroups (plan1 3) threeEnergised)
/-- R149: the burner has lost its path and stopped (R43, R169) before the try drops zone 5's ended request and energises zone 4 again,
whose valve re-opens at once (R151). -/
theorem test_adoption_tries_come_last :
    threeLimited.heat.state = .postrun ∧ (adoptionTries (plan1 3) threeLimited).drv[4].valve = .open ∧
      (adoptionTries (plan1 3) threeLimited).heat.state = .postrun := ⟨by decide, by decide, by decide⟩
/-- Zones 0 and 1 start, zone 5 is disabled, zone 4 is kept, in the second state with its window state changed, and zone 2 is unchanged. -/
theorem witness_AdoptionReconcilesZonesAndGroups :
    (checking cells1 base).plan.check = .running ∧ reportedViolation (workingPlan (storedPlan cells1)) = none ∧
      (let p := workingPlan (storedPlan cells1)
       zoneClass (some plan0) p 0 = .started ∧ zoneClass (some plan0) p 5 = .disabled ∧
        zoneClass (some plan0) p 4 = .kept ∧ zoneClass (some plan0) p 2 = .unchanged ∧
        (base.inp.windowOpen[4] = false ∧ windowCounted p base 4 = false) ∧
        windowCounted p (inpIs (fun i => { i with pins := i.pins.set 1 ⟨true, true, none, true, 0⟩ }) base) 4 = true ∧
        (inpIs (fun i => { i with windowOpen := i.windowOpen.set 4 true }) base).inp.windowOpen[4] = true) ∧
      (let p := workingPlan (storedPlan cells2)
       reportedViolation p = none ∧ zoneClass (some plan0) p 4 = .kept ∧ zoneClass (some plan0) p 5 = .kept ∧
        isRoom p 4 = true ∧ isRoom p 5 = true ∧ (bothEnergised base).drv[4].request = .energised ∧
        (bothEnergised base).drv[5].request = .energised ∧ (bothEnergised base).inp.windowOpen = base.inp.windowOpen ∧
        standsBefore p (bothEnergised base) 5 4 = true ∧ outputCount p.zones[5].mask ≤ p.groups[0].maxEnergised ∧
        p.groups[0].maxEnergised < outputCount p.zones[4].mask + outputCount p.zones[5].mask) :=
  ⟨rfl, by decide, by decide, by decide⟩
/-- A transaction with an entry that the adoption of `cells1` retains, and with one that it makes SEARCHING. -/
def pollingAt (e : Fin 16) : State := busy (exchange e .sample frame3 false) base
/-- Sensor entry 0 is retained, entry 1 starts to be searched and entry 3 goes off; the bands stay, and change; input 0 and input 1 restart, and input
2 does not; a transaction with an entry of each class; and an INACTIVE and an IDLE link with the pipe unit due. -/
theorem witness_AdoptionReconcilesLinkAndInputs :
    (checking cells1 base).plan.check = .running ∧ reportedViolation (workingPlan (storedPlan cells1)) = none ∧
      (let p := workingPlan (storedPlan cells1)
       entryClass (some plan0) p 0 = .retained ∧ entryClass (some plan0) p 1 = .searching ∧ entryClass (some plan0) p 3 = .off ∧
        pipeUnit p = some 2 ∧ plan0.header.bandLow = p.header.bandLow ∧ plan0.inputs[0].role ≠ p.inputs[0].role ∧
        plan0.inputs[2] = p.inputs[2] ∧ p.inputs[1].role = .window ∧ p.inputs[0].role = .supplyLow) ∧
      (let p := workingPlan (storedPlan ((0x12, 70) :: cells1))
       reportedViolation p = none ∧ plan0.header.bandLow ≠ p.header.bandLow) ∧
      ((pollingAt 0).link.txn.isSome = true ∧ (pollingAt 1).link.txn.isSome = true ∧ base.link.txn = none) ∧
      ((linkIs (fun _ => Link.afterReset) base).link.state = .inactive ∧ base.link.state = .idle ∧ base.link.pollExpiry = none ∧
        base.link.pipeLast = none) ∧ Quiet (checking cells1 base) :=
  ⟨rfl, by decide, by decide, by decide, ⟨rfl, rfl, rfl⟩, ⟨rfl, rfl, rfl, rfl⟩, rfl⟩
/-- `plan0` with another band_low and another bus address in entry 1. -/
def plan2 : Plan := { plan0 with
  header := { header0 with bandLow := 70 }, sensors := plan0.sensors.set 1 ⟨true, 7, .room, 0⟩ }
/-- R40, R86, R97, R100: the adoption marks the pipe unit for the new bands, the IDLE link starts its LIMITS at once, and a transaction with
the entry made SEARCHING is dropped. -/
theorem test_adoption_and_the_link :
    (choose plan2 (reconcileLink (some plan0) plan2 base)).link.txn.map (·.command) = some .limits ∧
      (reconcileLink (some plan0) plan2 (pollingAt 1)).link.txn.map (·.dropped) = some true ∧
      (reconcileLink (some plan0) plan2 (pollingAt 0)).link.txn.map (·.dropped) = some false := by decide
/-- An adoption from each state of the heat source, with the unit kept and lost, a boiler condition of BOILER handed, a changed flow input
and one that stays. -/
theorem witness_AdoptionKeepsTheHeatSource :
    (checking cells0 base).plan.check = .running ∧ reportedViolation (workingPlan (storedPlan cells0)) = none ∧
      (let p := workingPlan (storedPlan cells0)
       (some plan0).map (·.header.flowIndex) ≠ some p.header.flowIndex ∧ pipeUsable p base = false) ∧
      base.heat.state = .firing ∧ held.heat.state = .held ∧ prerunning.heat.state = .prerun ∧
      (let s := heatIs (fun h => { h with state := .lockout, cause := .boiler }) (inpIs (fun i => { i with boilerFault := true }) base)
       s.heat.state = .lockout ∧ s.heat.cause = .boiler ∧ (after .planCheckCompletion (checking cells0 s)).inp.boilerFault = false) ∧
      (Service.heating ∈ base.heat.inService) ∧
      (after .planCheckCompletion (checking cells0 base)).plan.active = some (workingPlan (storedPlan cells0)) :=
  ⟨rfl, by decide, by decide, rfl, by decide, rfl, by decide, by decide, by decide⟩
/-- R43, R170: the adoption of a plan with no pipe unit stops the burner and keeps its log and the retry count. -/
theorem test_adoption_keeps_the_log :
    let t := after .planCheckCompletion (checking cells0 (heatIs (fun h => { h with retryCount := 2 }) base))
    t.heat.ignitions = [10000] ∧ t.heat.retryCount = 2 ∧ t.heat.lastStop = 10160 ∧ t.heat.state = .postrun := by decide
theorem witness_WorkingValuesLieInTheirRanges :
    let p := workingPlan (storedPlan cells1)
    (p.zones[0].enabled = true ∧ p.zones[0].kind = .room) ∧ (p.zones[1].enabled = true ∧ p.zones[1].kind = .cylinder) ∧
      p.inputs[0].role = .supplyLow ∧ p.sensors[0].enabled = true := by decide
theorem witness_AdoptedPlansAreSound :
    reportedViolation plan0 = none ∧ isRoom plan0 4 = true ∧ isCylinder plan0 11 = true ∧ (4 : Fin 12) ≠ 5 ∧
      plan0.inputs[0].role ≠ .none ∧ plan0.inputs[3].role = .flowPulse ∧ plan0.header.outdoorIndex < 16 ∧
      plan0.zones[5].enabled = true ∧ plan0.sensors[0].enabled = true ∧ plan0.sensors[1].enabled = true ∧
      flowInput plan0 = some 3 := by decide
/-- A RELOAD whose check adopts, and one whose check refuses. -/
theorem witness_ReloadCompletesWithItsCheck :
    (reloading cells0).plan.check = .running ∧ (reloading cells0).req.inFlight = some ⟨30, 1⟩ ∧ Quiet (reloading cells0) ∧
      reportedViolation (workingPlan (storedPlan (reloading cells0).plan.shadow)) = none ∧
      reportedViolation (workingPlan (storedPlan (reloading []).plan.shadow)) = some ⟨0, .magic⟩ ∧ Quiet (reloading []) :=
  ⟨rfl, rfl, rfl, by decide, by decide, rfl⟩
/-- R186: the attention number, 2, rises by 2 at a refusal with a RELOAD in flight, and once more as PLAN_REFUSED joins. -/
theorem test_reload_refused :
    let t := after .planCheckCompletion (reloading [])
    t.faults.attention = 5 ∧ t.req.results[14] = ⟨1, .done, 1, 30⟩ ∧ t.plan.lastResult = .refused .magic := by decide

/-- A pin reset, the second before the cylinder timeout, and the last second of a week's last minute. -/
theorem witness_RunSecondAdvancesTheTime :
    let s := clkIs (fun c => { c with day := 6, minute := 1439, second := 59, tickCounter := 59 })
      (heatIs (fun h => { h with cylTimer := 2699 }) cylinderLong)
    s.mem.inReset = none ∧ s.clk.second < 60 ∧ s.clk.minute < 1440 ∧ s.clk.day < 7 ∧ s.clk.tickCounter < 60 ∧ Quiet s ∧
      s.plan.active = some plan0 ∧ served s = some .cylinder ∧ heatingCalls plan0 s = true ∧
      s.heat.cylTimer < plan0.header.cylMax * 60 ∧
      (let r := after .pinReset base
       r.mem.inReset = some .pin ∧ r.clk.second < 60 ∧ r.clk.minute < 1440 ∧ r.clk.day < 7 ∧ Quiet r) :=
  ⟨rfl, by decide, by decide, by decide, by decide, rfl, rfl, rfl, by decide, by decide,
    by decide, by decide, by decide, by decide, rfl⟩
/-- A tick after its run second, and one taken before it. -/
theorem witness_MinuteTickAgesAndEvaluates :
    (let s := (clkIs (fun c => { c with tickDue := true, ageDue := true }) base).setOvr someOverrides
     s.plan.active = some plan0 ∧ s.clk.tickDue = true ∧ s.clk.ageDue = true ∧ Quiet s ∧ ∃ e ∈ s.ovr.entries, e.remaining ≤ 1) ∧
      (let s := clkIs (fun c => { c with tickCounter := 59 }) base
       s.plan.active = some plan0 ∧ Quiet s ∧ s.clk.tickDue = false ∧ s.clk.ageDue = false ∧ s.clk.tickCounter = 59 ∧
        s.clk.tickAhead = false ∧ s.clk.ageAhead = false ∧ s.mem.inReset = none) :=
  ⟨⟨rfl, rfl, rfl, rfl, by decide⟩, rfl, rfl, rfl, rfl, rfl, rfl, rfl, rfl⟩
/-- Section 3.5.1: Monday 390 and 480, Monday 180 with Saturday's point carried over the empty Sunday, and a week of empty days. -/
theorem witness_ScheduleLevelIsTheLastSwitchPoint :
    let r := plan0.zones[4]
    (profileFor plan0 r 0).Pairwise (fun a b => a.minute < b.minute) ∧
      (⟨390, 2⟩ ∈ profileFor plan0 r 0 ∧ ∀ v ∈ profileFor plan0 r 0, v.minute ≤ 479 → v.minute ≤ 390) ∧
      (∀ w ∈ profileFor plan0 r 0, 389 < w.minute) ∧ (profileFor plan0 r ((0 + 7 - 1) % 7)) = [] ∧
      (profileFor plan0 r ((0 + 7 - 2) % 7)).getLast? = some ⟨1380, 0⟩ ∧
      (∀ d, d < 7 → profileFor plan0 { r with week := Vector.replicate 7 7 } d = []) := by decide
theorem witness_TargetsLieInTheirRanges :
    let p := workingPlan (storedPlan cells1)
    isRoom p 0 = true ∧ isCylinder p 1 = true ∧ p.zones[2].enabled = false := by decide

/-- The ends of the ranges of day and minute, and the first values beyond them. -/
theorem witness_SetClockSetsTheClock :
    (∀ l ∈ [[1, 9, 6, 0x9F, 5], [1, 9, 7, 0x9F, 5], [1, 9, 6, 0xA0, 5]],
      requestDue (request l base) = true ∧ slotKind (request l base) = .setClock) ∧
    (∀ l, Quiet (request l base)) ∧
    (let s := request [1, 9, 6, 0x9F, 5] base
     slotByte s 2 ≤ 6 ∧ slotByte s 3 + 256 * slotByte s 4 ≤ 1439) ∧
    6 < slotByte (request [1, 9, 7, 0x9F, 5] base) 2 ∧
    (let s := request [1, 9, 6, 0xA0, 5] base
     1439 < slotByte s 3 + 256 * slotByte s 4) := ⟨by decide, fun _ => rfl, by decide, by decide, by decide⟩
/-- The ends of the parameters' ranges, the first values beyond them, and a full list. -/
theorem witness_AddOverrideJoinsOrAnswers :
    (∀ l ∈ [[2, 9, 0x30, 0, 7, 1, 3, 1], [2, 9, 0x30, 0, 0, 2, 255, 255, 255], [2, 9, 0x01, 0, 0, 1, 0, 1],
        [2, 9, 0x30, 0, 8, 1, 0, 1], [2, 9, 0x30, 0, 0, 0, 0, 1], [2, 9, 0x30, 0, 0, 3, 0, 1], [2, 9, 0x30, 0, 0, 1, 4, 1],
        [2, 9, 0x30, 0, 0, 1, 0, 0]],
      requestDue (request l base) = true ∧ slotKind (request l base) = .addOverride) ∧
    (∀ l, Quiet (request l base) ∧ (request l base).plan.active = some plan0) ∧
    (noPlan (request [2] base)).plan.active = none ∧ requestDue (noPlan (request [2] base)) = true ∧
    slotKind (noPlan (request [2] base)) = .addOverride ∧
    BitVec.ofNat 12 0x30 &&& enabledMask plan0 ≠ 0 ∧ BitVec.ofNat 12 0x01 &&& enabledMask plan0 = 0 ∧
    16 ≤ fullOverrides.entries.length ∧ base.ovr.entries.length < 16 :=
  ⟨by decide, fun _ => ⟨rfl, rfl⟩, rfl, by decide, by decide, by decide, by decide, by decide, by decide⟩
/-- R76: last assigned id 254 with 255, 1 and 2 in use gives 3. -/
theorem witness_NewOverrideIdIsTheFirstFreeOne :
    let o : OverrideList := ⟨[255, 1, 2].map fun i => ⟨i, 1, 0, .level .eco, 1⟩, 254⟩
    o.entries.length ≤ 16 ∧ nextId o = 3 := by decide
/-- Id 0, an id that an entry carries, and one that none carries. -/
theorem witness_CancelOverrideRemovesEntries :
    (∀ l ∈ [[3, 9], [3, 9, 8], [3, 9, 10]], requestDue (request l (base.setOvr someOverrides)) = true ∧
      slotKind (request l (base.setOvr someOverrides)) = .cancelOverride) ∧
    (∀ l, (request l (base.setOvr someOverrides)).plan.active = some plan0 ∧ Quiet (request l (base.setOvr someOverrides))) ∧
    OverrideListWf someOverrides ∧ (∃ e ∈ someOverrides.entries, e.id = 8) ∧ (∀ e ∈ someOverrides.entries, e.id ≠ 10) ∧
    (let s := noPlan (request [3, 9] base)
     s.plan.active = none ∧ requestDue s = true ∧ slotKind s = .cancelOverride ∧ Quiet s) :=
  ⟨by decide, fun _ => ⟨rfl, rfl⟩, by unfold OverrideListWf; decide, by decide, by decide, rfl, by decide, by decide, rfl⟩
/-- R69: CANCEL OVERRIDE and CLEAR LOCKOUT with plan status NONE. -/
theorem test_no_plan_answers :
    (after .cancelOverride (noPlan (request [3, 9] base))).req.results[14] = ⟨9, .noPlan, 0, 30⟩ ∧
      (after .clearLockout (noPlan (request [4, 9] base))).req.results[14] = ⟨9, .noPlan, 0, 30⟩ := by decide
theorem witness_WinnerIsTheHighestPriorityAddedLast :
    winner someOverrides 4 = some ⟨8, 0x10, 2, .setpoint 40, 1⟩ ∧ winner someOverrides 5 = none := by decide
/-- A lockout of a cause with the pipe unit at a held value. -/
def lockedOut (c : LockoutCause) (pipe : Int) : State :=
  request [4, 9] (linkIs (fun l => { l with entries := l.entries.set 2 (online pipe) })
    (heatIs (fun h => { h with state := .lockout, cause := c }) base))
/-- R65, R172, R174, R176: at the clear OVERHEAT leaves and the pump run is cut short; with the boiler condition noted BOILER_FAULT joins. -/
theorem test_clear_lockout_ends :
    let s := heatIs (fun h => { h with pumpRunExpiry := some 10300, div := true })
      ((lockedOut .overheat 1199).setFaults { base.faults with entries := [⟨.overheat, 255, 1⟩] })
    let t := after .clearLockout s
    let v := after .clearLockout (heatIs (fun h => { h with boilerNoted := true }) s)
    t.heat.state = .held ∧ t.pins.pump = false ∧ t.faults.entries = [] ∧ t.faults.attention = 4 ∧ t.inp.flow = ⟨false, false, false⟩ ∧
      v.heat.cause = .boiler ∧ v.faults.entries = [⟨.boilerFault, 255, 1⟩] := by decide
/-- The causes, held values at and below the limit of R174, with and without permission, a served service and a noted boiler condition. -/
theorem witness_ClearLockoutAnswers :
    (∀ c v, requestDue (lockedOut c v) = true ∧ (lockedOut c v).plan.active = some plan0 ∧ Quiet (lockedOut c v) ∧
      (lockedOut c v).heat.state = .lockout ∧ (lockedOut c v).heat.cause = c ∧ (lockedOut c v).heat.boilerNoted = false) ∧
    slotKind (lockedOut .noFlow 0) = .clearLockout ∧ base.heat.state ≠ .lockout ∧
    pipeUsable plan0 (lockedOut .overheat 1199) = true ∧ pipeHeld plan0 (lockedOut .overheat 1199) = some 1199 ∧
    ((1199 : Int) < (plan0.header.overheat : Int) * 16 - 160) ∧ ¬(1200 : Int) < (plan0.header.overheat : Int) * 16 - 160 ∧
    (let s := noPlan (lockedOut .noFlow 0)
     s.plan.active = none ∧ requestDue s = true ∧ slotKind s = .clearLockout ∧ Quiet s) ∧
    (served (lockedOut .noFlow 0) = some .heating ∧ startBlock plan0 (lockedOut .noFlow 0) .heating ≠ .none ∧
      startBlock plan0 ((lockedOut .noFlow 0).updDrv 6 fun d => { d with valve := .open }) .heating = .none ∧
      served (heatIs (fun h => { h with inService := [] }) (lockedOut .noFlow 0)) = none ∧
      (heatIs (fun h => { h with boilerNoted := true }) (lockedOut .overheat 0)).heat.boilerNoted = true ∧
      pumpOn (heatIs (fun h => { h with pumpRunExpiry := some 10300 }) (lockedOut .overheat 0)).heat = true) :=
  ⟨fun _ _ => ⟨rfl, rfl, rfl, rfl, rfl, rfl⟩, by decide, by decide, by decide, by decide, by decide, by decide, ⟨rfl, by decide,
    by decide, rfl⟩, rfl, by decide, by decide, rfl, rfl, rfl⟩
theorem witness_ReloadAndUnknownKinds :
    (requestDue (request [5, 9] base) = true ∧ Quiet (request [5, 9] base) ∧ slotKind (request [5, 9] base) = .reload) ∧
      requestDue (request [6, 9] base) = true ∧ slotByte (request [6, 9] base) 0 = 6 ∧ slotByte base 0 = 0 :=
  ⟨⟨by decide, rfl, by decide⟩, by decide, by decide, by decide⟩

/-- R84: LIMITS to address 9 with the bands 78 and 82 carries 09h, 23h, E0h, 04h, 20h, 05h and CBh. -/
theorem test_limits_frame :
    (after .pipeUnitDue (linkIs (fun l => { l with limitsMark := true }) base)).link.txn.map (fun x => x.frame.map (·.data)) =
      some [0x09, 0x23, 0xE0, 0x04, 0x20, 0x05, 0xCB] := by decide
/-- Each of the three choice events, with the pipe unit due and not due, and with and without a rotation entry. -/
theorem witness_LinkStartsTheNextTransaction :
    base.plan.active = some plan0 ∧ Quiet base ∧
      (∃ x, (linkIs (fun l => { l with pollExpiry := some 5000 }) base).link.pollExpiry = some x ∧ x ≤ base.inp.time) ∧
      (base.link.state = .idle ∧ base.link.pollExpiry = none ∧ pipeUnit plan0 = some 2 ∧ base.link.pipeLast = none ∧
        4500 + 500 ≤ base.inp.time ∧ ¬4501 + 500 ≤ base.inp.time) ∧
      (let s := linkIs (fun l => { l with state := .paused, pauseEnds := 5000 }) base
       s.link.state = .paused ∧ s.link.pauseEnds ≤ s.inp.time) ∧
      (base.link.entries[base.link.rotation].state ≠ .off ∧ pipeUnit plan0 ≠ some base.link.rotation) ∧
      (∀ k : Fin 16, (linkIs (fun _ => Link.afterReset) base).link.entries[k].state = .off) ∧
      (sampling false).link.state ≠ .idle :=
  ⟨rfl, rfl, by decide, by decide, by decide, by decide, by decide, by decide⟩
/-- The entry of a transaction in a state with 5 misses, so that the next miss is the sixth. -/
def fifthMiss (x : SensorState) (s : State) : State := linkIs (fun l => { l with
  entries := l.entries.set 0 { online 312 with state := x, misses := 5 } }) s
/-- R89, R92, R94, R118, R119: a reply of 4 characters is invalid; the sixth miss makes the entry LOST, reports SENSOR_LOST, and then puts
the zones 4 and 6 that name it into FALLBACK. -/
theorem test_invalid_reply_loses_the_entry :
    let t := after (.replyEnd (unmarked [3, 0, 0, 0xFD])) (fifthMiss .stale (sampling true))
    t.link.entries[0].state = .lost ∧ t.reg[4].mode = .fallback ∧
      t.faults.entries.map (fun f => (f.code, f.subject)) =
        [(.clockInvalid, 255), (.sensorLost, 0), (.zoneFallback, 4), (.zoneFallback, 6)] := by decide
/-- A last attempt of a SAMPLE to the outdoor unit, entry 3, STALE with 5 misses, with the poll timer expired. -/
def losingOutdoor : State := linkIs (fun l => { l with
  pollExpiry := some 4999, entries := l.entries.set 3 { online (-80) with state := .stale, misses := 5 } })
  (busy (exchange 3 .sample (requestFrame plan0 3 .sample) true) base)
/-- R86, R178: the outdoor unit's entry into LOST starts the hold, and its end is a choice event, at which the pipe unit is due; without an
outcome, as after an adoption that dropped the transaction, no miss is counted and no hold starts. -/
theorem test_outdoor_unit_is_lost :
    let t := after .noReply losingOutdoor
    let v := after .noReply (linkIs (fun l => { l with txn := l.txn.map fun x => { x with dropped := true } }) losingOutdoor)
    t.heat.outdoorHold = some 10160 ∧ t.link.txn.map (·.entry) = some 2 ∧ v.link.entries[3].misses = 5 ∧
      v.heat.outdoorHold = none ∧ v.link.txn.map (·.entry) = some 2 := by decide
/-- Both attempts; the last millisecond of SENDING and the one after it; a character that differs and one that matches; and a reply that
is too short, before a sixth miss. -/
theorem witness_FailedAttemptsAndContentions :
    (∀ second, (sampling second).plan.active = some plan0 ∧
      (sampling second).link.txn = some (exchange 0 .sample frame3 second) ∧
      (sampling second).link.state = .busy ∧ Quiet (sampling second) ∧ (sampling second).link.contentions < 2 ∧
      (linkIs (fun l => { l with contentions := 2 }) (sampling second)).link.contentions = 2) ∧
      (5004 ≤ 5000 + frame3.length * 110 / 96 + 1 ∧ 5000 + frame3.length * 110 / 96 + 1 < 5005) ∧
      frame3[0]? = some ⟨0x03, true⟩ ∧ (⟨0x03, false, true⟩ : LinkChar).mark ≠ true ∧
      (unmarked [3, 0, 0, 0xFD]).length ≠ 5 ∧
      (∀ x, (fifthMiss x (sampling true)).link.entries[0].state = x ∧ (fifthMiss x (sampling true)).link.entries[0].misses = 5) ∧
      namesEntry plan0 4 0 ∧ base.reg[4].mode = .running ∧
      (outdoorUnit plan0 = some 3 ∧ losingOutdoor.link.state = .busy ∧ losingOutdoor.link.entries[3].held ≠ none ∧
        (entryMiss losingOutdoor.link.entries[3]).state = .lost ∧ Quiet losingOutdoor) :=
  ⟨fun second => by cases second <;> exact ⟨rfl, rfl, rfl, rfl, by decide, rfl⟩,
    by decide, rfl, by decide, by decide, fun _ => ⟨rfl, rfl⟩, ⟨rfl, rfl⟩, by decide, by decide, rfl, by decide, by decide, rfl⟩
/-- Each state, and the fifth and sixth miss. -/
theorem witness_MissesLeadToLost :
    (online 992).state = .online ∧ (clearEntry .searching (online 992)).state = .searching ∧
      (entryMiss (online 992)).state = .stale ∧ SensorEntry.afterReset.state = .off ∧
      (entryMiss^[5] (online 992)).state = .stale ∧ (entryMiss^[6] (online 992)).state = .lost := by decide
/-- A room entry and the pipe unit with each command; the lowest and the highest temperature; a matching unit type and another; a pipe
reading below, at and above the limits of its bands and of overheat; and a void reading. -/
theorem witness_ValidReadingIsHeld :
    (∀ c, (piping c).plan.active = some plan0 ∧ (piping c).link.txn = some (exchange 2 c (requestFrame plan0 2 c) false) ∧
      Quiet (piping c)) ∧
    (∀ c, (requestFrame plan0 2 c).head?.map (·.data) = some (byteOf plan0.sensors[2].address)) ∧
    ((sampling false).link.txn = some (exchange 0 .sample frame3 false) ∧
      frame3.head?.map (·.data) = some (byteOf plan0.sensors[0].address)) ∧
    pipeUnit plan0 = some 2 ∧ plan0.sensors[2].role = .pipe ∧ plan0.sensors[0].role = .room ∧
    (∀ z : Fin 12, plan0.zones[z].enabled = true → plan0.zones[z].sensor ≠ 2) ∧ base.heat.state = .firing ∧
    base.clk.runSeconds < base.heat.burnerStart + plan0.header.minOn * 60 ∧
    [(1247 : Int), 1248, 1311, 1312, 1359, 1360].map (fun v => (bandOf plan0.header v, decide (1360 ≤ v))) =
      [(0, false), (1, false), (1, false), (2, false), (2, false), (2, true)] ∧
    signed16 ((0x80 : Byte).toNat + 256 * (0xFD : Byte).toNat) = -640 ∧
    signed16 ((0x40 : Byte).toNat + 256 * (0x06 : Byte).toNat) = 1600 ∧
    (let x := { exchange 2 .sample (requestFrame plan0 2 .sample) false with markedSince := true }
     let s := linkIs (fun l => { l with
       limitsMark := true, entries := l.entries.set 2 { online 992 with state := .lost } }) (busy x base)
     s.link.txn = some x ∧ x.markedSince = true ∧ s.link.limitsMark = true ∧ s.link.entries[2].state = .lost) ∧
    (let s := (fifthMiss .lost (sampling false)).updReg 4 fun g => { g with mode := .fallback }
     s.link.entries[0].state = .lost ∧ namesEntry plan0 4 0 ∧ s.reg[4].mode = .fallback) ∧
    (losingOutdoor.link.txn.map (·.entry) = some 3 ∧ outdoorUnit plan0 = some 3) ∧
    (let x := { exchange 2 .limits (requestFrame plan0 2 .limits) false with dropped := true }
     (busy x base).link.txn = some x ∧ ¬ReplyInvalid x (unmarked (withCheck [9, 0])) ∧ Quiet (busy x base)) :=
  ⟨fun c => ⟨rfl, rfl, rfl⟩, fun c => by cases c <;> decide, ⟨rfl, by decide⟩, by decide, by decide,
    by decide, by decide, rfl, by decide, by decide, by decide, by decide, ⟨rfl, rfl, rfl, by decide⟩,
    ⟨by decide, ⟨rfl, rfl⟩, by decide⟩, by decide, rfl, by unfold ReplyInvalid; decide, rfl⟩
/-- R178, R180: a reading of the outdoor unit ends the hold, and the flow target is computed from it: a room target of 21 °C at 0 °C gives 805. -/
theorem test_outdoor_reading :
    let t := after (replies [12, 0, 0, 0]) (heatIs (fun h => { h with outdoorHold := some 10000, flowTarget := 0 }) losingOutdoor)
    t.heat.outdoorHold = none ∧ t.heat.flowTarget = 336 + 403 + 16 + 50 := by decide
theorem witness_NoiseOnlyCounts :
    (Quiet base ∧ base.link.state ≠ .busy) ∧ Quiet (sampling true) ∧ (sampling true).link.state = .busy :=
  ⟨⟨rfl, by decide⟩, rfl, rfl⟩

/-- An input without and with a role, a heat source with the pump off, and the watch limit and T reached by the next sample. -/
theorem witness_SampleEventTakesTheLevels :
    base.mem.inReset = none ∧ Quiet base ∧ inputRole base.plan.active 2 = .none ∧ inputRole base.plan.active 0 ≠ .none ∧
      pumpOn held.heat = false ∧ (flowInput plan0).isSome = true ∧ pumpOn base.heat = true ∧
      base.inp.watch ≤ flowLimit plan0 ∧ flowLimit plan0 = 10000 ∧ base.heat.state = .firing ∧
      (let s := inpIs (fun i => { i with watch := 2200, capture := 2199 }) base
       min (s.inp.capture + 1) (max 65535 s.inp.capture) = s.inp.watch ∧ s.inp.watch < flowLimit plan0) ∧
      (let s := inpIs (fun i => { i with capture := 9999 }) prerunning
       min (s.inp.capture + 1) (max 65535 s.inp.capture) = flowLimit plan0 ∧ s.heat.state ≠ .firing ∧
        pumpOn s.heat = true) :=
  ⟨rfl, rfl, by decide, by decide, by decide, by decide, by decide, by decide, by decide, rfl, by decide, by decide⟩
/-- Input 0 HIGH or LOW for its debounce time, with the window of zone 5 CLOSED or OPEN before. -/
def windowMoves (high : Bool) : State := inpIs (fun i => { i with
  pins := i.pins.set 0 ⟨high, !high, some 3000, !high, 4⟩, windowOpen := i.windowOpen.set 5 (!high) }) base
/-- Input 4, of role BOILER_FAULT, HIGH or LOW for its debounce time. -/
def boilerMoves (high : Bool) : State := inpIs (fun i => { i with
  pins := i.pins.set 4 ⟨high, !high, some 3000, !high, 0⟩, boilerFault := !high }) base
/-- Input 5, of role SUPPLY_LOW for group 0, HIGH or LOW for its debounce time, while zone 4 waits in group 0. -/
def supplyMoves (high : Bool) : State := inpIs (fun i => { i with
  pins := i.pins.set 5 ⟨high, !high, some 3000, !high, 0⟩, supplyLow := i.supplyLow.set 0 (!high) }) busyGroups
/-- R120: OPEN ends the demand; R175: the boiler fault locks out and its end leaves the lockout; R150: the restored supply grants zone 4's
group, whose waiting request has ended. -/
theorem test_debounced_roles :
    (after (.debouncedLevelChange 0) (windowMoves true)).reg[5].mode = .window ∧
      (after (.debouncedLevelChange 0) (windowMoves false)).reg[5].mode = .running ∧
      (after (.debouncedLevelChange 4) (boilerMoves true)).heat.cause = .boiler ∧
      (after (.debouncedLevelChange 5) (supplyMoves true)).faults.entries.map (·.code) = [.supplyLow, .clockInvalid].reverse ∧
      (after (.debouncedLevelChange 5) (supplyMoves false)).drv[4].request = .idle := by decide
/-- Input 3, the flow pulse input, HIGH for its debounce time, with a capture counter. -/
def flowEdge (capture : Nat) : State := inpIs (fun i => { i with
  pins := i.pins.set 3 ⟨true, false, some 3000, false, 0⟩, capture := capture, pulses := 1, flow := ⟨true, false, false⟩ }) base
/-- Section 6.4.1, 2,900 ms: the second edge captures 1,100, sets the watch limit to 2,200 and establishes flow; R114: an edge that
captures 0 leaves a watch limit of 0. -/
theorem test_flow_edge :
    let t := after (.debouncedLevelChange 3) (flowEdge 1100)
    t.inp.period = 1100 ∧ t.inp.capture = 0 ∧ t.inp.watch = 2200 ∧ t.inp.pulses = 2 ∧ t.inp.flow = ⟨false, false, true⟩ ∧
      (after (.debouncedLevelChange 3) (flowEdge 0)).inp.watch = 0 := by decide
theorem witness_DebouncedChangeIsTaken :
    (∀ b, (windowMoves b).plan.active = some plan0 ∧ (windowMoves b).inp.pins[0].pending = some 3000 ∧
      3000 + debounceTime plan0.inputs[0].debounce ≤ (windowMoves b).inp.time ∧ Quiet (windowMoves b) ∧
      GroupsInOrder (windowMoves b) ∧ (windowMoves b).inp.windowOpen[5] = !b) ∧
    (∀ b, (boilerMoves b).plan.active = some plan0 ∧ (boilerMoves b).inp.pins[4].pending = some 3000 ∧ Quiet (boilerMoves b) ∧
      (boilerMoves b).inp.boilerFault = !b) ∧
    (∀ b, (supplyMoves b).plan.active = some plan0 ∧ (supplyMoves b).inp.pins[5].pending = some 3000 ∧ Quiet (supplyMoves b) ∧
      GroupsInOrder (supplyMoves b) ∧ (supplyMoves b).inp.supplyLow[0] = !b) ∧
    3000 + debounceTime plan0.inputs[4].debounce ≤ base.inp.time ∧ 3000 + debounceTime plan0.inputs[5].debounce ≤ base.inp.time ∧
    plan0.inputs[0].role = .window ∧ plan0.inputs[3].role = .flowPulse ∧ plan0.inputs[4].role = .boilerFault ∧
    plan0.inputs[5].role = .supplyLow ∧ plan0.zones[5].windowMask.getLsbD 0 = true ∧
    (heatIs (fun h => { h with state := .lockout, cause := .boiler, boilerNoted := true }) (boilerMoves false)).heat.state =
      .lockout ∧
    (∀ c, (flowEdge c).plan.active = some plan0 ∧ (flowEdge c).inp.pins[3].pending = some 3000 ∧
      3000 + debounceTime plan0.inputs[3].debounce ≤ (flowEdge c).inp.time ∧ Quiet (flowEdge c) ∧
      countsEdge plan0.inputs[3].edge (flowEdge c).inp.pins[3].raw = true ∧ (flowEdge c).inp.capture = c) ∧
    flowInput plan0 = some 3 ∧ pumpOn base.heat = true ∧ pumpOn held.heat = false ∧ 1 ≤ plan0.header.flowTimeout :=
  ⟨fun b => ⟨rfl, rfl, by cases b <;> decide, rfl, base_in_order, by cases b <;> rfl⟩, fun b => ⟨rfl, rfl, rfl, rfl⟩,
    fun b => ⟨rfl, rfl, rfl, busyGroups_in_order, by cases b <;> rfl⟩, by decide, by decide, rfl, rfl, rfl, rfl, by decide, rfl,
    fun _ => ⟨rfl, rfl, show 3000 + debounceTime plan0.inputs[3].debounce ≤ 5000 by decide, rfl, rfl, rfl⟩, by decide, by decide,
    by decide, by decide⟩
theorem witness_LateFlowAndNoFlow :
    let s := inpIs (fun i => { i with capture := 10000, watch := 10000 }) base
    s.plan.active = some plan0 ∧ pumpOn s.heat = true ∧ (flowInput plan0).isSome = true ∧ Quiet s ∧
      s.inp.watch ≤ s.inp.capture ∧ s.inp.flow.noFlow = false ∧ flowLimit plan0 ≤ s.inp.capture ∧ s.heat.state = .firing ∧
      (heatIs (fun h => { h with state := .prerun }) s).heat.state ≠ .firing :=
  ⟨rfl, rfl, by decide, rfl, by decide, rfl, by decide, rfl, by decide⟩

/-- `base` with zone 4 in a mode. -/
def inMode (m : ZoneMode) : State := base.updReg 4 fun g => { g with mode := m }
/-- The modes of an enabled zone at its cycle start, an on-time of 0 and above 0, and each request state before it. -/
theorem witness_RoomCycleStart :
    base.plan.active = some plan0 ∧ isRoom plan0 4 = true ∧ cycleDue base 4 = true ∧ GroupsInOrder base ∧ Quiet base ∧
      (base.reg[4].mode = .running ∧ heldOf base plan0.zones[4].sensor = some 312) ∧
      ((inMode .fallback).reg[4].mode = .fallback ∧ cycleDue (inMode .fallback) 4 = true ∧ GroupsInOrder (inMode .fallback)) ∧
      ((inMode .window).reg[4].mode = .window ∧ cycleDue (inMode .window) 4 = true ∧ GroupsInOrder (inMode .window)) ∧
      (after (.cycleStart 4) (inMode .window)).reg[4].onTime = 0 ∧ 0 < (after (.cycleStart 4) base).reg[4].onTime ∧
      (base.drv[4].request ≠ .energised ∧ (base.updDrv 4 fun d => { d with request := .energised }).drv[4].request = .energised) :=
  ⟨rfl, by decide, by decide, base_in_order, rfl, by decide, ⟨by decide, by decide, base_in_order⟩,
    ⟨by decide, by decide, base_in_order⟩, by decide, by decide, by decide⟩
theorem witness_IntegralRisesOnlyUnstarved :
    (∃ t, exec (.cycleStart 4) base = .next t) ∧ base.reg[4].integral < (after (.cycleStart 4) base).reg[4].integral ∧
      ∀ z : Fin 12, base.reg[z].integral ≤ 4080 := ⟨⟨_, rfl⟩, by decide, by decide⟩
/-- The cycle start of zone 11, at run second 10,060 + 240; the timeout; and the end of the block. -/
theorem witness_CylinderLatchTimeoutAndBlock :
    (let s := clkIs (fun c => { c with runSeconds := 10300 }) base
     s.plan.active = some plan0 ∧ Quiet s ∧ isCylinder plan0 11 = true ∧ cycleDue s 11 = true ∧ s.reg[11].mode = .running ∧
      heldOf s plan0.zones[11].sensor = some 950) ∧
    (served cylinderLong = some .cylinder ∧ heatingCalls plan0 cylinderLong = true ∧
      plan0.header.cylMax * 60 ≤ cylinderLong.heat.cylTimer ∧ Quiet cylinderLong) ∧
    (heatIs (fun h => { h with cylBlock := some 10160 }) base).heat.cylBlock = some 10160 ∧ 10160 ≤ base.clk.runSeconds :=
  ⟨⟨rfl, rfl, by decide, by decide, by decide, by decide⟩, ⟨rfl, by decide, by decide, rfl⟩, rfl, by decide⟩

/-- An end event, an expiry, and an inrush entry at its age. -/
theorem witness_RequestsEndAndExpire :
    busyGroups.plan.active = some plan0 ∧ GroupsInOrder busyGroups ∧ Quiet busyGroups ∧
      (isRoom plan0 6 = true ∧ busyGroups.drv[6].request = .energised ∧ busyGroups.drv[6].reqEnd = .at 10160 ∧
        10160 ≤ busyGroups.clk.runSeconds ∧ busyGroups.drv[6].valve = .opening) ∧
      (isRoom plan0 4 = true ∧ busyGroups.drv[4].request = .waiting ∧ requestEnded busyGroups 4 = true) ∧
      ∃ x ∈ (busyGroups.updGrp 0 fun q => { q with inrush := [10130] }).grp[0].inrush,
        x + plan0.groups[0].inrushWindow ≤ busyGroups.clk.runSeconds :=
  ⟨rfl, busyGroups_in_order, rfl, by decide, by decide, by decide⟩
theorem witness_ValveMovementEnds :
    let s := clkIs (fun c => { c with runSeconds := 10280 }) busyGroups
    s.plan.active = some plan0 ∧ s.drv[6].moveEnd ≤ s.clk.runSeconds ∧ Quiet s ∧ s.drv[6].valve = .opening ∧
      (s.updDrv 6 fun d => { d with valve := .closing }).drv[6].valve = .closing :=
  ⟨rfl, by decide, rfl, by decide, by decide⟩
theorem witness_ActOutputsFollowTheRequests :
    (∃ t, exec .noiseCharacter busyGroups = .next t) ∧ (after .noiseCharacter busyGroups).plan.active = some plan0 ∧
      reportedViolation plan0 = none ∧ (after .noiseCharacter State.reset).plan.active = none ∧
      (after .noiseCharacter busyGroups).pins.act = 0x0300 := ⟨⟨_, rfl⟩, rfl, by decide, rfl, by decide⟩

/-- Each timer at its expiry. -/
theorem witness_HeatTimersExpire :
    base.plan.active = some plan0 ∧ 10160 ≤ base.clk.runSeconds ∧ Quiet base ∧
      (let s := heatIs (fun h => { h with state := .prerun, prerunExpiry := some 10160 }) base
       s.heat.state = .prerun ∧ s.heat.prerunExpiry = some 10160 ∧ flowEstablished s = true ∧
        flowEstablished (inpIs (fun i => { i with flow := ⟨false, false, false⟩ }) s) = false) ∧
      (let s := heatIs (fun h => { h with state := .postrun, postrunExpiry := some 10160 }) base
       s.heat.postrunExpiry = some 10160 ∧ served s = some .heating ∧ startBlock plan0 s .heating ≠ .none ∧
        startBlock plan0 (s.updDrv 6 fun d => { d with valve := .open }) .heating = .none ∧
        served (heatIs (fun h => { h with inService := [] }) s) = none) ∧
      (let s := heatIs (fun h => { h with
          state := .lockout, cause := .noFlow, pumpRunExpiry := some 10160, retryExpiry := some 10160 }) base
       s.heat.state = .lockout ∧ s.heat.cause = .noFlow ∧ s.heat.pumpRunExpiry = some 10160 ∧ s.heat.retryExpiry = some 10160 ∧
        s.heat.boilerNoted = false) :=
  ⟨rfl, by decide, rfl, by decide, by decide, by decide⟩
/-- min_off, min_on and 600 s at their ages, with and without a served service. -/
theorem witness_BurnerLimitsPass :
    base.plan.active = some plan0 ∧ Quiet base ∧ held.heat.lastStop + plan0.header.minOff * 60 ≤ held.clk.runSeconds ∧
      (∃ x ∈ (heatIs (fun h => { h with ignitions := [6560] }) base).heat.ignitions, x + 3600 ≤ base.clk.runSeconds) ∧
      (let s := heatIs (fun h => { h with burnerStart := 9560, inService := [] }) base
       s.heat.state = .firing ∧ s.heat.burnerStart + plan0.header.minOn * 60 ≤ s.clk.runSeconds ∧ served s = none ∧
        s.heat.burnerStart + 600 ≤ s.clk.runSeconds) ∧
      pathHolds plan0 (base.updDrv 6 fun d => { d with valve := .open }) .heating = true :=
  ⟨rfl, rfl, by decide, by decide, by decide, by decide⟩
/-- A cycle start of a calling room zone that changes its call, a served service that changes, the flow that becomes late, an adoption,
the last service's leaving, and the hold's expiry with and without a served service. -/
theorem witness_FlowTargetIsFormedAtItsEvents :
    (WindowsSilent base ∧ (∃ t, exec (.cycleStart 4) base = .next t) ∧ cycleDue base 4 = true ∧ isRoom plan0 4 = true ∧
      (after (.cycleStart 4) base).reg[4].call = true ∧ base.reg[4].call = false ∧
      (after (.cycleStart 4) base).plan.active = some plan0) ∧
    (WindowsSilent cylinderLong ∧ served (after .cylinderTimeout cylinderLong) ≠ served cylinderLong) ∧
    (let s := inpIs (fun i => { i with capture := 2200, watch := 2200 }) base
     WindowsSilent s ∧ effectiveCap (after .flowLate s) ≠ effectiveCap s) ∧
    ((checking cells0 base).plan.check = .running ∧ (after .planCheckCompletion (checking cells0 base)).plan.lastResult = .adopted) ∧
    (leaving.heat.state = .firing ∧ (after (.cycleStart 6) leaving).heat.state = .firing ∧
      served (after (.cycleStart 6) leaving) = none) ∧
    (let s := linkIs (fun l => { l with entries := l.entries.set 3 { online 100 with state := .lost } })
      (heatIs (fun h => { h with outdoorHold := some 6560 }) base)
     s.plan.active = some plan0 ∧ s.heat.outdoorHold = some 6560 ∧ 6560 + 3600 ≤ s.clk.runSeconds ∧
      plan0.header.flowMin ≤ plan0.header.flowMax ∧ Quiet s ∧ outdoorUnit plan0 = some 3 ∧ s.link.entries[3].state = .lost ∧
      served s = some .heating ∧ s.heat.state = .firing ∧ served (heatIs (fun h => { h with inService := [] }) s) = none) :=
  ⟨⟨by unfold WindowsSilent; decide, ⟨_, rfl⟩, by decide, by decide, by decide, by decide, rfl⟩,
    ⟨by unfold WindowsSilent; decide, by decide⟩, ⟨by unfold WindowsSilent; decide, by decide⟩, ⟨rfl, by decide⟩,
    ⟨rfl, by decide, by decide⟩, rfl, rfl, by decide, by decide, rfl, by decide, by decide, rfl, rfl, rfl⟩
/-- Section 9.8.1, the cylinder under a cap: CAP1 with cap1_flow 60 gives the target 960 and the duty 159. -/
theorem test_cylinder_under_a_cap :
    let t := after .cylinderBlockExpiry ((heatIs (fun h => { h with cylBlock := some 10160, cap := .cap1 }) base).updReg 11 fun g =>
      { g with latch := true })
    t.heat.flowTarget = 960 ∧ t.heat.duty = 159 := by decide
/-- R185: at one event a leave goes first, then the joins in the order of their codes and subjects. -/
theorem test_fault_order :
    (takeNews { FaultUnit.afterReset with
      entries := [⟨.noPlan, 255, 1⟩]
      handed := [.arises .zoneFallback 3, .arises .zoneFallback 1, .ends .noPlan 255, .arises .sensorLost 5] }).entries =
      [⟨.sensorLost, 5, 1⟩, ⟨.zoneFallback, 1, 1⟩, ⟨.zoneFallback, 3, 1⟩] := by decide
/-- A list with an entry present, absent, and a full list. -/
theorem witness_EndedConditionsLeaveTheList :
    (let f : FaultUnit := { FaultUnit.afterReset with entries := [⟨.clockInvalid, 255, 1⟩, ⟨.sensorLost, 3, 2⟩] }
     FaultListWf f ∧ f.entries = [⟨.clockInvalid, 255, 1⟩] ++ ⟨.sensorLost, 3, 2⟩ :: [] ∧ f.entries.length < 16 ∧
      ∀ e ∈ f.entries, e.code = .sensorLost → e.subject ≠ 7) ∧
    (let f : FaultUnit := { FaultUnit.afterReset with entries := (List.range 16).map fun k => ⟨.sensorLost, k, 1⟩ }
     FaultListWf f ∧ f.entries.length = 16 ∧ ∀ e ∈ f.entries, e.code = .noPlan → e.subject ≠ 255) ∧
    ∃ t, exec .runSecond base = .next t :=
  ⟨⟨by unfold FaultListWf; decide, rfl, by decide, by decide⟩, ⟨by unfold FaultListWf; decide, by decide, by decide⟩, _, rfl⟩

end Sys2Proof.Tests
end

/-!
SUPPORT. The frame of each command's event, from those of the shared operations.
-/

namespace Sys2Proof.Machine

/-! ## Frames with a guard -/

/-- A choice of two states keeps a frame that both keep. -/
theorem sameBesides_ite {l : List Block} {s t u : State} {c : Prop} [Decidable c] (ht : sameBesides l s t)
    (hu : sameBesides l s u) : sameBesides l s (if c then t else u) := by
  split
  · exact ht
  · exact hu

/-- An event that happens under a condition only keeps the frame of what it does. -/
theorem sameBesides_guard {l : List Block} {s t : State} {c : Prop} [Decidable c] (h : sameBesides l s t) :
    sameBesides l s (if c then t else s) := sameBesides_ite h (sameBesides_refl l s)

/-- A frame without the memory path keeps it whole. -/
theorem sameBesides_mem {l : List Block} {s t : State} (h : sameBesides l s t) (hm : Block.mem ∉ l) : t.mem = s.mem :=
  sameBesides_get h .mem hm

/-- A frame without the fault list keeps a state quiet. -/
theorem sameBesides_quiet {l : List Block} {s t : State} (h : sameBesides l s t) (hf : Block.faults ∉ l) (quiet : Quiet s) :
    Quiet t := by
  have faults : t.faults = s.faults := sameBesides_get h .faults hf
  exact (congrArg FaultUnit.handed faults).trans quiet

/-! ## Frames of the heat source's timer events -/

theorem prerunExpires_frame (s : State) : sameBesides [.heat, .inp, .faults] s (prerunExpires s) := by
  unfold prerunExpires; split
  · exact sameBesides_refl _ _
  · exact sameBesides_guard (sameBesides_ite (sameBesides_mono (toFiring_frame _ s) (by decide)) (toLockout_frame _ _ s))

theorem postrunExpires_frame (s : State) : sameBesides [.heat, .inp] s (postrunExpires s) := by
  unfold postrunExpires; split
  · exact sameBesides_refl _ _
  · exact sameBesides_guard (sameBesides_trans (toOff_frame _ s) (judge_frame _ _))

theorem pumpRunEnds_frame (s : State) : sameBesides [.heat, .inp] s (pumpRunEnds s) := by
  unfold pumpRunEnds; split
  · exact sameBesides_refl _ _
  · exact sameBesides_guard (move_frame _ _ s)

theorem retryExpires_frame (s : State) : sameBesides [.heat, .inp, .faults] s (retryExpires s) :=
  sameBesides_guard (sameBesides_trans (sameBesides_mono (setHeat_frame s _) (by decide)) (leaveLockout_frame _))

theorem minOffPasses_frame (s : State) : sameBesides [.heat, .inp] s (minOffPasses s) := by
  unfold minOffPasses; split
  · exact sameBesides_refl _ _
  · exact sameBesides_guard (judge_frame _ s)

theorem minOnPasses_frame (s : State) : sameBesides [.heat, .inp] s (minOnPasses s) := by
  unfold minOnPasses; split
  · exact sameBesides_refl _ _
  · exact sameBesides_guard (judge_frame _ s)

theorem ignitionLeaves_frame (s : State) : sameBesides [.heat, .inp] s (ignitionLeaves s) := by
  have log : ∀ h, sameBesides [.heat, .inp] s (s.setHeat h) := fun h => sameBesides_mono (setHeat_frame s h) (by decide)
  unfold ignitionLeaves
  refine sameBesides_ite (sameBesides_refl _ _) ?_
  split
  · exact log _
  · exact sameBesides_trans (log _) (judge_frame _ _)

theorem firingRun_frame (s : State) : sameBesides [.heat] s (firingRun s) := sameBesides_guard (setHeat_frame s _)

theorem cylinderTimeout_frame (s : State) : sameBesides [.reg, .heat, .inp, .faults] s (cylinderTimeout s) := by
  unfold cylinderTimeout; split
  · exact sameBesides_refl _ _
  · exact sameBesides_guard (takeCylinderTimeout_frame _ s)

theorem blockExpires_frame (s : State) : sameBesides [.reg, .heat, .inp, .faults] s (blockExpires s) := by
  have ended : ∀ h, sameBesides [.reg, .heat, .inp, .faults] s (reportEnd .cylTimeout noSubject (s.setHeat h)) := fun h =>
    sameBesides_step (reportEnd_frame _ _ _) (by decide) (sameBesides_mono (setHeat_frame s h) (by decide))
  unfold blockExpires
  refine sameBesides_guard ?_
  split
  · exact ended _
  · exact sameBesides_step (cylinderBlockNotice_frame _ _) (by decide) (ended _)

theorem outdoorHoldExpires_frame (s : State) : sameBesides [.heat] s (outdoorHoldExpires s) := by
  unfold outdoorHoldExpires; split
  · exact sameBesides_guard (sameBesides_trans (setHeat_frame s _) (recompute_frame _ _))
  · exact sameBesides_refl _ _

/-! ## Frames of the time events -/

theorem countCylinder_frame (p : Plan) (s : State) : sameBesides [.heat] s (countCylinder p s) :=
  sameBesides_guard (setHeat_frame s _)

theorem runSecond_frame (s : State) : sameBesides [.clk, .heat] s (runSecond s) := by
  have time : ∀ c, sameBesides [.clk, .heat] s (s.setClk c) := fun c => sameBesides_mono (setClk_frame s c) (by decide)
  unfold runSecond; split
  · exact time _
  · exact sameBesides_refl _ _
  · simp only; split
    · exact time _
    · exact sameBesides_step (countCylinder_frame _ _) (by decide) (time _)

theorem ageAheadOverrides_frame (s : State) : sameBesides [.ovr, .clk] s (ageAheadOverrides s) :=
  sameBesides_trans (sameBesides_mono (setClk_frame s _) (by decide)) (changeOverrides_frame _ _)

theorem minuteTick_frame (s : State) : sameBesides [.ovr, .clk] s (minuteTick s) := by
  have evaluated : ∀ t c, sameBesides [.ovr, .clk] s t → sameBesides [.ovr, .clk] s (evaluateSchedule (t.setClk c)) :=
    fun t c h => sameBesides_step (evaluateSchedule_frame _) (by decide) (sameBesides_step (setClk_frame t c) (by decide) h)
  exact sameBesides_ite (evaluated _ _ (sameBesides_guard (ageOverrides_frame s)))
    (sameBesides_guard (evaluated _ _ (sameBesides_guard (ageAheadOverrides_frame s))))

theorem overrideExpiry_frame (s : State) : sameBesides [.ovr, .clk] s (overrideExpiry s) :=
  sameBesides_ite (ageOverrides_frame s) (sameBesides_guard (ageAheadOverrides_frame s))

/-! ## Frames of the requests -/

theorem taking_frame {l : List Block} (k : RequestKind) (f : State → State) (s : State) (h : sameBesides l s (f s)) :
    sameBesides l s (taking k f s) := sameBesides_guard h

/-- A request that needs a plan changes, beside its result and the attention number, what it changes under one (R69). -/
theorem withPlan_frame {l : List Block} (f : Plan → State → State) (s : State) (h : ∀ p, sameBesides l s (f p s))
    (hr : Block.req ∈ l) (hf : Block.faults ∈ l) : sameBesides l s (withPlan f s) := by
  unfold withPlan; split
  · exact sameBesides_mono (complete_frame _ _ _ s) (by simp [hr, hf])
  · exact h _

theorem takeSetClock_frame (s : State) : sameBesides [.req, .clk, .faults] s (takeSetClock s) := by
  have answered : ∀ tag status detail, sameBesides [.req, .clk, .faults] s (complete tag status detail s) :=
    fun _ _ _ => sameBesides_mono (complete_frame _ _ _ s) (by decide)
  exact sameBesides_ite (answered _ _ _) (sameBesides_ite (answered _ _ _)
    (sameBesides_step (complete_frame _ _ _ _) (by decide) (sameBesides_mono (setClockTo_frame _ _ s) (by decide))))

/-- A request that changes the override list, and completes (R71, R72, R78). -/
theorem complete_changeOverrides_frame (tag : Byte) (status : Status) (detail : Nat) (o : OverrideList) (s : State) :
    sameBesides [.req, .ovr, .clk, .faults] s (complete tag status detail (changeOverrides o s)) :=
  sameBesides_step (complete_frame _ _ _ _) (by decide) (sameBesides_mono (changeOverrides_frame o s) (by decide))

theorem takeAddOverride_frame (p : Plan) (s : State) : sameBesides [.req, .ovr, .clk, .faults] s (takeAddOverride p s) := by
  unfold takeAddOverride; simp only; split
  · exact sameBesides_mono (complete_frame _ _ _ s) (by decide)
  · exact sameBesides_ite (sameBesides_mono (complete_frame _ _ _ s) (by decide)) (complete_changeOverrides_frame _ _ _ _ s)

theorem takeCancelOverride_frame (p : Plan) (s : State) :
    sameBesides [.req, .ovr, .clk, .faults] s (takeCancelOverride p s) :=
  sameBesides_ite (complete_changeOverrides_frame _ _ _ _ s) (sameBesides_ite (complete_changeOverrides_frame _ _ _ _ s)
    (sameBesides_mono (complete_frame _ _ _ s) (by decide)))

theorem takeClearLockout_frame (p : Plan) (s : State) :
    sameBesides [.req, .heat, .inp, .faults] s (takeClearLockout p s) := by
  have answered : ∀ tag status detail, sameBesides [.req, .heat, .inp, .faults] s (complete tag status detail s) :=
    fun _ _ _ => sameBesides_mono (complete_frame _ _ _ s) (by decide)
  unfold takeClearLockout
  refine sameBesides_ite ?_ (answered _ _ _)
  simp only; split
  · exact sameBesides_step (complete_frame _ _ _ _) (by decide) (sameBesides_step (endLockout_frame _ _) (by decide)
      (sameBesides_mono (setHeat_frame s _) (by decide)))
  · exact sameBesides_ite (sameBesides_step (complete_frame _ _ _ _) (by decide)
      (sameBesides_mono (endLockout_frame _ s) (by decide))) (answered _ _ _)
  · exact answered _ _ _
  · exact answered _ _ _

theorem takeUnknown_frame (s : State) : sameBesides [.req, .faults] s (takeUnknown s) := by
  unfold takeUnknown; split
  · exact complete_frame _ _ _ s
  · exact sameBesides_refl _ _

/-! ## Frames of the drive, zone and input events -/

theorem endEvent_frame (z : Fin 12) (s : State) : sameBesides [.drv, .grp, .heat, .inp] s (endEvent z s) := by
  unfold endEvent; split
  · exact sameBesides_guard (deenergise_frame _ z s)
  · exact sameBesides_refl _ _

theorem waitingExpiry_frame (z : Fin 12) (s : State) : sameBesides [.drv, .grp, .heat, .inp] s (waitingExpiry z s) := by
  unfold waitingExpiry; split
  · exact sameBesides_guard (depart_frame _ z s)
  · exact sameBesides_refl _ _

theorem inrushLeaves_frame (g : Fin 2) (s : State) : sameBesides [.drv, .grp, .heat, .inp] s (inrushLeaves g s) := by
  unfold inrushLeaves; split
  · exact sameBesides_refl _ _
  · exact sameBesides_ite (sameBesides_refl _ _)
      (sameBesides_trans (sameBesides_mono (updGrp_frame s g _) (by decide)) (arbiterTry_frame _ g _))

theorem movementEnd_frame (z : Fin 12) (s : State) : sameBesides [.drv, .heat, .inp] s (movementEnd z s) :=
  withValveNotice_frame z _ s (sameBesides_mono (updDrv_frame s z _) (by decide)) (by decide) (by decide)

theorem cycleStart_frame (z : Fin 12) (s : State) :
    sameBesides [.clk, .reg, .drv, .grp, .heat, .inp] s (cycleStart z s) := by
  have taken : ∀ c, sameBesides [.clk, .reg, .drv, .grp, .heat, .inp] s (s.setClk c) := fun c =>
    sameBesides_mono (setClk_frame s c) (by decide)
  unfold cycleStart
  refine sameBesides_guard ?_
  split
  · exact taken _
  · exact sameBesides_ite (sameBesides_step (roomCycle_frame _ z _) (by decide) (taken _))
      (sameBesides_ite (sameBesides_step (cylinderCycle_frame _ z _) (by decide) (taken _)) (taken _))

theorem flowLate_frame (s : State) : sameBesides [.heat, .inp, .faults] s (flowLate s) := by
  unfold flowLate; split
  · exact sameBesides_refl _ _
  · exact sameBesides_guard (setFlow_frame _ _ s)

theorem flowNoFlow_frame (s : State) : sameBesides [.heat, .inp, .faults] s (flowNoFlow s) := by
  unfold flowNoFlow; split
  · exact sameBesides_refl _ _
  · exact sameBesides_guard (setFlow_frame _ _ s)

/-! ## Frames of the link events -/

theorem pollTimer_frame (s : State) : sameBesides [.link] s (pollTimer s) := by
  unfold pollTimer; split
  · exact sameBesides_guard (sameBesides_trans (setLink_frame s _) (choose_frame _ _))
  · exact sameBesides_refl _ _

theorem pipeUnitDue_frame (s : State) : sameBesides [.link] s (pipeUnitDue s) := by
  unfold pipeUnitDue; split
  · exact sameBesides_guard (choose_frame _ s)
  · exact sameBesides_refl _ _

theorem pauseEnd_frame (s : State) : sameBesides [.link] s (pauseEnd s) := by
  unfold pauseEnd; split
  · exact sameBesides_guard (sameBesides_trans (setLink_frame s _) (choose_frame _ _))
  · exact sameBesides_refl _ _

theorem noise_frame (s : State) : sameBesides [.link] s (noise s) :=
  sameBesides_ite (sameBesides_refl _ _) (setLink_frame s _)

theorem inTransaction_frame {l : List Block} (f : Plan → LinkTransaction → State → State) (s : State)
    (h : ∀ p x, sameBesides l s (f p x s)) : sameBesides l s (inTransaction f s) := by
  unfold inTransaction; split
  · exact h _ _
  · exact sameBesides_refl _ _

theorem compareEcho_frame (place : Option Nat) (received : LinkChar) (p : Plan) (x : LinkTransaction) (s : State) :
    sameBesides [.link, .reg, .heat, .inp, .faults] s (compareEcho place received p x s) :=
  sameBesides_guard (contend_frame p x s)

/-! ## Frames of the completion of a check -/

theorem endEntryFaults_frame (old : Option Plan) (p : Plan) (s : State) (e : Fin 16) :
    sameBesides [.faults] s (endEntryFaults old p s e) :=
  sameBesides_ite (sameBesides_refl _ _) (sameBesides_trans (reportEnd_frame s _ _) (reportEnd_frame _ _ _))

theorem reconcileMark_frame (old : Option Plan) (p : Plan) (s : State) : sameBesides [.link] s (reconcileMark old p s) := by
  unfold reconcileMark; split
  · exact sameBesides_guard (setMark_frame s)
  · exact setLink_frame s _

theorem reconcileLink_frame (old : Option Plan) (p : Plan) (s : State) :
    sameBesides [.link, .faults] s (reconcileLink old p s) :=
  sameBesides_step (reconcileMark_frame old p _) (by decide)
    (sameBesides_step (sameBesides_foldl _ (endEntryFaults_frame old p) _ _) (by decide)
      (sameBesides_mono (setLink_frame s _) (by decide)))

theorem reconcileSupply_frame (p : Plan) (s : State) (g : Fin 2) : sameBesides [.inp, .faults] s (reconcileSupply p s g) :=
  have judged : ∀ i, sameBesides [.inp, .faults] s (s.setInp i) := fun i => sameBesides_mono (setInp_frame s i) (by decide)
  sameBesides_ite (sameBesides_refl _ _) (sameBesides_ite (sameBesides_step (report_frame _ _ _) (by decide) (judged _))
    (sameBesides_step (reportEnd_frame _ _ _) (by decide) (judged _)))

theorem reconcileInputs_frame (old : Option Plan) (p : Plan) (s : State) :
    sameBesides [.inp, .faults] s (reconcileInputs old p s) :=
  sameBesides_trans (sameBesides_mono (sameBesides_trans (setInp_frame s _) (setInp_frame _ _)) (by decide))
    (sameBesides_foldl _ (reconcileSupply_frame p) _ _)

theorem disableZone_frame (r : ZoneRec) (z : Fin 12) (s : State) : sameBesides [.reg, .drv, .faults] s (disableZone r z s) :=
  sameBesides_step (updReg_frame _ z _) (by decide) (sameBesides_step (setMode_frame z _ _) (by decide)
    (sameBesides_mono (deenergiseRaw_frame r _ z s) (by decide)))

theorem startZone_frame (p : Plan) (z : Fin 12) (s : State) : sameBesides [.reg, .drv, .faults] s (startZone p z s) :=
  sameBesides_step (updDrv_frame _ z _) (by decide) (sameBesides_step (updReg_frame _ z _) (by decide)
    (sameBesides_mono (setMode_frame z _ s) (by decide)))

theorem keptOpens_frame (p : Plan) (z : Fin 12) (s : State) : sameBesides [.inp, .reg, .drv, .faults] s (keptOpens p z s) :=
  sameBesides_step (deenergiseRaw_frame _ _ z _) (by decide) (sameBesides_step (openRegulator_frame z _) (by decide)
    (sameBesides_mono (setInp_frame s _) (by decide)))

theorem keptCloses_frame (p : Plan) (z : Fin 12) (s : State) : sameBesides [.reg, .faults] s (keptCloses p z s) :=
  sameBesides_trans (sameBesides_mono (updReg_frame s z _) (by decide)) (setMode_frame z _ _)

theorem keepZone_frame (p : Plan) (wasOpen : Bool) (z : Fin 12) (s : State) :
    sameBesides [.inp, .reg, .drv, .faults] s (keepZone p wasOpen z s) := by
  have moved : sameBesides [.inp, .reg, .drv, .faults] s
      (if wasOpen = s.inp.windowOpen[z] then sensorMode p z s
       else if wasOpen then keptCloses p z s else keptOpens p z s) :=
    sameBesides_ite (sameBesides_mono (sensorMode_frame p z s) (by decide))
      (sameBesides_ite (sameBesides_mono (keptCloses_frame p z s) (by decide)) (keptOpens_frame p z s))
  exact sameBesides_ite (sameBesides_step (setCall_frame _ z _) (by decide) moved) moved

theorem reconcileZone_frame (old : Option Plan) (p : Plan) (before : Vector Bool 12) (s : State) (z : Fin 12) :
    sameBesides [.inp, .reg, .drv, .faults] s (reconcileZone old p before s z) := by
  unfold reconcileZone; split
  · exact sameBesides_mono (disableZone_frame _ z s) (by decide)
  · exact sameBesides_mono (startZone_frame p z s) (by decide)
  · exact keepZone_frame p _ z s
  · exact sameBesides_refl _ _

theorem limitGroup_frame (p : Plan) (g : Fin 2) (fuel : Nat) (s : State) :
    sameBesides [.drv] s (limitGroup p g fuel s) := by
  induction fuel generalizing s with
  | zero => exact sameBesides_refl _ _
  | succ n ih =>
    unfold limitGroup
    refine sameBesides_guard ?_
    split
    · exact sameBesides_trans (deenergiseRaw_frame _ _ _ s) (ih _)
    · exact sameBesides_refl _ _

theorem reconcileGroup_frame (p : Plan) (s : State) (g : Fin 2) : sameBesides [.drv, .grp] s (reconcileGroup p s g) :=
  sameBesides_step (updGrp_frame _ g _) (by decide) (sameBesides_mono (limitGroup_frame p g 12 s) (by decide))

theorem reconcileGroups_frame (p : Plan) (s : State) : sameBesides [.drv, .grp] s (reconcileGroups p s) :=
  sameBesides_foldl _ (reconcileGroup_frame p) _ s

theorem reconcileServices_frame (old : Option Plan) (p : Plan) (s : State) :
    sameBesides [.heat] s (reconcileServices old p s) :=
  sameBesides_trans (sameBesides_trans (setHeat_frame s _) (setInService_frame _ _)) (followDiv_frame p _)

theorem reconcileHeat_frame (old : Option Plan) (p : Plan) (boiler : Bool) (s : State) :
    sameBesides [.reg, .heat, .inp, .faults] s (reconcileHeat old p boiler s) := by
  have services := reconcileServices_frame old p s
  have noticed : sameBesides [.reg, .heat, .inp, .faults] s
      (if boiler then boilerNotice p (reconcileServices old p s).inp.boilerFault (reconcileServices old p s)
       else reconcileServices old p s) :=
    sameBesides_ite (sameBesides_step (boilerNotice_frame p _ _) (by decide) (sameBesides_mono services (by decide)))
      (sameBesides_mono services (by decide))
  exact sameBesides_step (recompute_frame p _) (by decide) (sameBesides_step (judge_frame p _) (by decide)
    (sameBesides_step (stopWithoutPipe_frame p _) (by decide)
      (sameBesides_trans noticed (sameBesides_guard (takeCylinderTimeout_frame p _)))))

/-- The reconciliation of an adoption leaves the memory path, the plan store and the request unit as they were (R34 to R43). -/
theorem reconcile_frame (old : Option Plan) (p : Plan) (s : State) :
    sameBesides [.clk, .ovr, .link, .inp, .reg, .drv, .grp, .heat, .faults] s (reconcile old p s) := by
  have inputs := sameBesides_step (reconcileInputs_frame old p _) (l := [.link, .inp, .faults]) (by decide)
    (sameBesides_mono (reconcileLink_frame old p s) (by decide))
  have zones := sameBesides_step (sameBesides_foldl _ (reconcileZone_frame old p s.inp.windowOpen) allZones _)
    (l := [.link, .inp, .reg, .drv, .faults]) (by decide) (sameBesides_mono inputs (by decide))
  have targets := fun o => sameBesides_step (evaluateSchedule_frame _) (l := [.clk, .ovr, .link, .inp, .reg, .drv, .faults])
    (by decide) (sameBesides_step (setOvr_frame _ o) (by decide) (sameBesides_mono zones (by decide)))
  have groups := fun o => sameBesides_step (reconcileGroups_frame p _)
    (l := [.clk, .ovr, .link, .inp, .reg, .drv, .grp, .faults]) (by decide) (sameBesides_mono (targets o) (by decide))
  exact sameBesides_step (choose_frame p _) (by decide) (sameBesides_step (adoptionTries_frame p _) (by decide)
    (sameBesides_step (reconcileHeat_frame old p _ _) (by decide) (sameBesides_mono (groups _) (by decide))))

theorem adopt_frame (p q : Plan) (s : State) :
    sameBesides [.plan, .clk, .ovr, .link, .inp, .reg, .drv, .grp, .heat, .faults] s (adopt p q s) :=
  sameBesides_step (reconcile_frame _ p _) (by decide) (sameBesides_step (raiseAttention_frame _) (by decide)
    (sameBesides_step (reportEnd_frame _ _ _) (by decide) (sameBesides_step (reportEnd_frame _ _ _) (by decide)
      (sameBesides_mono (setPlan_frame s _) (by decide)))))

theorem reportRefusal_frame (noPlan : Bool) (why : RefusalCode) (s : State) :
    sameBesides [.faults] s (reportRefusal noPlan why s) :=
  have told := sameBesides_guard (c := noPlan = true) (report_frame s .noPlan noSubject)
  sameBesides_ite told (sameBesides_trans told (report_frame _ _ _))

theorem refuse_frame (v : Violation) (q : Plan) (s : State) : sameBesides [.plan, .faults] s (refuse v q s) :=
  sameBesides_step (raiseAttention_frame _) (by decide) (sameBesides_step (reportRefusal_frame _ _ _) (by decide)
    (sameBesides_mono (setPlan_frame s _) (by decide)))

theorem completeReload_frame (detail : Nat) (s : State) : sameBesides [.req, .faults] s (completeReload detail s) := by
  unfold completeReload; split
  · exact complete_frame _ _ _ s
  · exact sameBesides_refl _ _

/-- The completion of a plan check leaves the memory path as it was (R30, R33, R34). -/
theorem checkCompletion_frame (s : State) :
    sameBesides [.plan, .clk, .req, .ovr, .link, .inp, .reg, .drv, .grp, .heat, .faults] s (checkCompletion s) := by
  unfold checkCompletion freshCompletion
  split
  · exact sameBesides_refl _ _
  · exact sameBesides_mono (setPlan_frame s _) (by decide)
  · simp only; split
    · exact sameBesides_step (completeReload_frame _ _) (by decide) (sameBesides_mono (refuse_frame _ _ s) (by decide))
    · exact sameBesides_step (completeReload_frame _ _) (by decide) (sameBesides_mono (adopt_frame _ _ s) (by decide))

end Sys2Proof.Machine

/-!
PROOFS of the statements about the memory path: WRITE ENABLE and WRITE DISABLE, WRITE STATUS, and the reset cause.
-/

namespace Sys2Proof.Machine

/-! ## Rules of a host transaction -/

/-- A command byte and the bytes after it change the memory path, and in a tracked transaction that they give its class also what the
command's effect changes (R3 to R5, R16). -/
theorem onCommand_frame {l : List Block} (first : BusByte) (more : List BusByte) (f : Tracked → State → State) (s : State)
    (h : ∀ t s, sameBesides l s (f t s)) (hm : Block.mem ∈ l) : sameBesides l s (onCommand first more f s) := by
  have forwarded : ∀ m, sameBesides l s (s.setMem m) := fun m => sameBesides_mono (setMem_frame s m) (by simp [hm])
  unfold onCommand; simp only; split
  · exact sameBesides_refl _ _
  · exact sameBesides_mono (onesReceived_frame _ s) (by simp [hm])
  · exact forwarded _
  · exact sameBesides_guard (sameBesides_trans (forwarded _) (h _ _))

theorem writeStatus_frame (data : List BusByte) (t : Tracked) (s : State) : sameBesides [.mem] s (writeStatus data t s) := by
  unfold writeStatus; split
  · exact setMem_frame s _
  · exact sameBesides_refl _ _

section
variable (data : List BusByte) (t : Tracked) (s : State)

theorem writeStatus_prot : (writeStatus data t s).mem.prot = match data with
    | b :: _ => if t.latchWasSet = true then .level (statusLevel b.sdi) else s.mem.prot
    | [] => s.mem.prot := by
  unfold writeStatus
  cases data <;> cases t.latchWasSet <;> rfl

theorem writeStatus_latch : (writeStatus data t s).mem.latch = s.mem.latch := by unfold writeStatus; split <;> rfl
theorem writeStatus_txn : (writeStatus data t s).mem.txn = s.mem.txn := by unfold writeStatus; split <;> rfl
theorem writeStatus_cause : (writeStatus data t s).mem.cause = s.mem.cause := by unfold writeStatus; split <;> rfl
end

/-- The CS_U# rise of a tracked transaction ends it with the latch mirror that its class and its clocks give, and leaves the other mirrors
as they were (R7 to R9). -/
theorem transactionEnd_tracked (bits : List BusBit) (s : State) (u : Tracked) (h : s.mem.txn = .tracked u) :
    (transactionEnd bits s).mem.latch = latchAfterRise u (u.clocks + bits.length) s.mem.latch ∧
      (transactionEnd bits s).mem.prot = s.mem.prot ∧ (transactionEnd bits s).mem.doubt = s.mem.doubt ∧
      (transactionEnd bits s).mem.txn = .idle := by
  have clocked : lastClocks bits s = s.setMem (forwardBits bits (lastBits u s.mem (bits.map (·.sdo))) s.mem) := by
    simp [lastClocks, h]
  simp [transactionEnd, csRises, clocked, forwardBits, h]

/-- A command byte, the bytes after it, the bits of an incomplete byte and the CS_U# rise, with the ends of both events. -/
def wholeCommand (first : BusByte) (more : List BusByte) (f : Tracked → State → State) (bits : List BusBit) (s : State) :
    State :=
  finish (transactionEnd bits (finish (onCommand first more f s)))

/-- A whole command whose effect is on the memory path hands nothing, and so changes beside it the pins only. -/
theorem wholeCommand_frame (first : BusByte) (more : List BusByte) (f : Tracked → State → State) (bits : List BusBit)
    (s : State) (h : ∀ t s, sameBesides [.mem] s (f t s)) (quiet : Quiet s) :
    sameBesides [.mem, .pins] s (wholeCommand first more f bits s) := by
  have bytes : sameBesides [.mem, .pins] s (finish (onCommand first more f s)) :=
    finish_quiet (sameBesides_mono (onCommand_frame first more f s h (by decide)) (by decide)) quiet (by decide) (by decide)
  exact sameBesides_trans bytes (finish_quiet (sameBesides_mono (transactionEnd_frame bits _) (by decide))
    (sameBesides_quiet bytes (by decide) quiet) (by decide) (by decide))

/-- A command has exactly 8 clocks where no byte and no bit comes after its command byte (R7). -/
theorem exactly_8_clocks_iff (more : List BusByte) (bits : List BusBit) :
    8 + 8 * more.length + bits.length = 8 ↔ more = [] ∧ bits = [] := by
  rw [← List.length_eq_zero_iff, ← List.length_eq_zero_iff]
  omega

section
variable {s : State} {u : Tracked} (tracked : s.mem.txn = .tracked u) (unclassed : u.cls = none)
include tracked unclassed

/-- After its bytes a tracked command that acts at the CS_U# rise only has its class, and the mirrors are as before (R3, R4). -/
theorem onCommand_noEffect_mirrors (first : BusByte) (more : List BusByte) :
    let t := finish (onCommand first more noEffect s)
    t.mem.txn = .tracked (classified first.sdi more.length s.mem u) ∧ t.mem.latch = s.mem.latch ∧
      t.mem.prot = s.mem.prot ∧ t.mem.doubt = s.mem.doubt := by
  rw [onCommand_tracked first more noEffect s u tracked unclassed]
  exact ⟨rfl, rfl, rfl, rfl⟩

/-- The mirrors after a whole tracked command that acts at the rise only: the latch mirror is what its class and its clocks give, and the
others are as before. -/
theorem wholeCommand_noEffect_mirrors (first : BusByte) (more : List BusByte) (bits : List BusBit) :
    let v := wholeCommand first more noEffect bits s
    v.mem.latch = latchAfterRise (classified first.sdi more.length s.mem u) (8 + 8 * more.length + bits.length) s.mem.latch ∧
      v.mem.prot = s.mem.prot ∧ v.mem.doubt = s.mem.doubt ∧ v.mem.txn = .idle := by
  obtain ⟨txn, latch, prot, doubt⟩ := onCommand_noEffect_mirrors tracked unclassed first more
  obtain ⟨latchAtRise, protAtRise, doubtAtRise, idle⟩ := transactionEnd_tracked bits _ _ txn
  rw [latch] at latchAtRise
  exact ⟨latchAtRise, protAtRise.trans prot, doubtAtRise.trans doubt, idle⟩

/-- A tracked command whose class gives the latch mirror `value` at a rise after 8 clocks, and else nothing, acts at the rise only, and only
where nothing comes after its command byte (R7). -/
theorem latchCommand_acts_at_rise (quiet : Quiet s) (first : BusByte) (value : LatchMirror) (more : List BusByte)
    (bits : List BusBit) (acts : ∀ clocks latch, latchAfterRise (classified first.sdi more.length s.mem u) clocks latch =
      if clocks = 8 then value else latch) :
    let t := finish (onCommand first more noEffect s)
    let v := wholeCommand first more noEffect bits s
    t.mem.latch = s.mem.latch ∧ v.mem.latch = (if more = [] ∧ bits = [] then value else s.mem.latch) ∧
      v.mem.prot = s.mem.prot ∧ v.mem.doubt = s.mem.doubt ∧ v.mem.txn = .idle ∧ sameBesides [.mem, .pins] s v := by
  obtain ⟨-, latch, -, -⟩ := onCommand_noEffect_mirrors tracked unclassed first more
  obtain ⟨rise, prot, doubt, idle⟩ := wholeCommand_noEffect_mirrors tracked unclassed first more bits
  have frame := wholeCommand_frame first more noEffect bits s (fun _ s => sameBesides_refl _ s) quiet
  rw [acts, if_congr (exactly_8_clocks_iff more bits) rfl rfl] at rise
  exact ⟨latch, rise, prot, doubt, idle, frame⟩

/-- After its bytes a tracked WRITE STATUS has its class, and the protection mirror follows bits 3:2 of the first data byte where the
latch mirror was SET (R8). -/
theorem onCommand_writeStatus_mirrors (first : BusByte) (data : List BusByte) :
    let t := finish (onCommand first data (writeStatus data) s)
    t.mem.txn = .tracked (classified first.sdi data.length s.mem u) ∧ t.mem.latch = s.mem.latch ∧
      t.mem.prot = match data with
        | b :: _ => if s.mem.latch = .set then .level (statusLevel b.sdi) else s.mem.prot
        | [] => s.mem.prot := by
  rw [onCommand_tracked first data (writeStatus data) s u tracked unclassed]
  refine ⟨writeStatus_txn .., writeStatus_latch .., (writeStatus_prot ..).trans ?_⟩
  cases data with
  | nil => rfl
  | cons b rest => simp [classified, forwardBytes]

end

/-! ## WRITE ENABLE and WRITE DISABLE (R7) -/

/-- Settles O13: the two commands leave the mirrors alone until the rise, where the clock count decides. -/
theorem writeEnableAndDisable : Obligations.WriteEnableAndDisable := by
  intro s u heard more bits tracked unclassed quiet
  exact ⟨⟨_, _, rfl, rfl, latchCommand_acts_at_rise tracked unclassed quiet ⟨0x06, heard⟩ .set more bits fun _ _ => rfl⟩,
    ⟨_, _, rfl, rfl, latchCommand_acts_at_rise tracked unclassed quiet ⟨0x04, heard⟩ .clear more bits fun _ _ => rfl⟩⟩

/-! ## WRITE STATUS (R8) -/

/-- Settles O14: the protection mirror is set at the first data byte, and the rise clears the latch mirror whatever passed. -/
theorem writeStatusSetsProtection : Obligations.WriteStatusSetsProtection := by
  intro s u heard data bits tracked unclassed quiet
  obtain ⟨txn, latch, prot⟩ := onCommand_writeStatus_mirrors tracked unclassed ⟨0x01, heard⟩ data
  obtain ⟨latchAtRise, protAtRise, -, idle⟩ := transactionEnd_tracked bits _ _ txn
  have cleared : ∀ clocks old, latchAfterRise (classified 0x01 data.length s.mem u) clocks old = .clear := fun _ _ => rfl
  have frame := wholeCommand_frame ⟨0x01, heard⟩ data _ bits s (writeStatus_frame data) quiet
  exact ⟨_, _, rfl, rfl, prot, protAtRise, latch, latchAtRise.trans (cleared _ _), idle, frame⟩

/-! ## The reset cause (R21) -/

/-- The start of a reset does to the memory path what `memAtReset` says, whatever its kind (R20). -/
theorem exec_resetCommand (k : ResetKind) (s : State) :
    ∃ t, exec (resetCommand k) s = .next t ∧ t.mem = memAtReset k s.mem := by
  cases k <;> exact ⟨_, rfl, rfl⟩

theorem resetEnds_mem {s : State} {k : ResetKind} (w : Straps) (h : s.mem.inReset = some k) :
    (resetEnds w s).mem = memAtResetEnd w k s.mem := by
  simp only [resetEnds, h]
  split <;> rfl

/-- The kind of several resets that overlap and end together that gives the reset cause (R21). -/
def strongestReset (kinds : List ResetKind) : ResetKind :=
  if .power ∈ kinds then .power else if .supply ∈ kinds then .supply else .pin

theorem strongestReset_singleton (k : ResetKind) : strongestReset [k] = k := by cases k <;> rfl

/-- Joining a reset to the one in progress loses nothing that later ones need. -/
theorem strongestReset_join (j k : ResetKind) (rest : List ResetKind) :
    strongestReset (strongerReset k j :: rest) = strongestReset (j :: k :: rest) := by
  cases j <;> cases k <;> simp [strongestReset, strongerReset]

/-- Further resets and the end of all of them, from within a reset. -/
theorem execAll_resets (w : Straps) (kinds : List ResetKind) (s : State) (j : ResetKind) (h : s.mem.inReset = some j) :
    ∃ t, execAll (kinds.map resetCommand ++ [.resetEnd w]) s = .next t ∧ t.mem.cause = strongestReset (j :: kinds) := by
  induction kinds generalizing s j with
  | nil =>
    refine ⟨_, rfl, ?_⟩
    rw [finish_mem, resetEnds_mem w h, strongestReset_singleton]
    rfl
  | cons k rest ih =>
    obtain ⟨r, taken, mem⟩ := exec_resetCommand k s
    have joined : r.mem.inReset = some (strongerReset k j) := by simp [mem, memAtReset, joinedReset, h]
    obtain ⟨t, runs, cause⟩ := ih r _ joined
    refine ⟨t, ?_, cause.trans (strongestReset_join j k rest)⟩
    simp only [List.map_cons, List.cons_append, execAll, taken, runs]

/-- The first reset of several starts one of its kind; the others join it. -/
theorem execAll_resets_from_none (w : Straps) (k : ResetKind) (rest : List ResetKind) (s : State) (h : s.mem.inReset = none) :
    ∃ t, execAll ((k :: rest).map resetCommand ++ [.resetEnd w]) s = .next t ∧ t.mem.cause = strongestReset (k :: rest) := by
  obtain ⟨r, taken, mem⟩ := exec_resetCommand k s
  have started : r.mem.inReset = some k := by simp [mem, memAtReset, joinedReset, h]
  obtain ⟨t, runs, cause⟩ := execAll_resets w rest r k started
  refine ⟨t, ?_, cause⟩
  simp only [List.map_cons, List.cons_append, execAll, taken, runs]

/-! ### The memory path's events keep the reset cause -/

theorem transactionBegin_cause (s : State) : (transactionBegin s).mem.cause = s.mem.cause := by
  unfold transactionBegin
  repeat' split
  all_goals rfl

/-- The bytes of a command keep the reset cause where the command's effect does. -/
theorem onCommand_cause (first : BusByte) (more : List BusByte) (f : Tracked → State → State) (s : State)
    (h : ∀ t s, (f t s).mem.cause = s.mem.cause) : (onCommand first more f s).mem.cause = s.mem.cause := by
  unfold onCommand; simp only; split
  · rfl
  · rfl
  · rfl
  · split
    · exact h _ _
    · rfl

theorem readData_cause (more : List BusByte) (t : Tracked) (s : State) : (readData more t s).mem.cause = s.mem.cause := by
  unfold readData; split <;> rfl

theorem raiseDoubt_cause (t : Tracked) (s : State) : (raiseDoubt t s).mem.cause = s.mem.cause := by
  unfold raiseDoubt; split <;> rfl

theorem planNotice_frame (o : Nat) (s : State) : sameBesides [.plan] s (planNotice o s) :=
  sameBesides_ite (sameBesides_refl _ _) (sameBesides_ite (setPlan_frame s _) (setPlan_frame s _))

/-- A trigger hands its notice to the plan store, the request unit or the fault list (R11). -/
theorem trigger_frame (o : Nat) (v : Byte) (s : State) : sameBesides [.plan, .req, .faults] s (trigger o v s) :=
  sameBesides_ite (sameBesides_mono (planNotice_frame o s) (by decide))
    (sameBesides_ite (sameBesides_mono (landProducer_frame v s) (by decide))
      (sameBesides_guard (sameBesides_mono (setFaults_frame s _) (by decide))))

/-- A byte that lands changes the shadow and what its trigger changes, and nothing of the memory path (R10, R11). -/
theorem landAt_frame (a : Nat) (v : Byte) (s : State) : sameBesides [.plan, .req, .faults] s (landAt a v s) := by
  unfold landAt; split
  · exact sameBesides_guard (sameBesides_trans (sameBesides_mono (setPlan_frame s _) (by decide)) (trigger_frame _ v _))
  · exact sameBesides_refl _ _

theorem landAt_mem (a : Nat) (v : Byte) (s : State) : (landAt a v s).mem = s.mem :=
  sameBesides_mem (landAt_frame a v s) (by decide)

theorem dataByte_cause (x : BusByte) (s : State) : (dataByte x s).mem.cause = s.mem.cause := by
  unfold dataByte; split
  · split
    · simp only; split
      · rw [landAt_mem]; rfl
      · rfl
    · rfl
  · rfl
  · rfl
  · rfl

theorem transactionEnd_cause (bits : List BusBit) (s : State) : (transactionEnd bits s).mem.cause = s.mem.cause := by
  unfold transactionEnd lastClocks; simp only; split <;> rfl

theorem sequenceRuns_cause (status : Byte) (contents : List Byte) (s : State) :
    (sequenceRuns status contents s).mem.cause = s.mem.cause := by
  unfold sequenceRuns; split <;> rfl

/-- Step 6 of a load ends with the request unit, a retained lockout and its report (R17, R67, R181). -/
theorem endLoad_frame (s : State) : sameBesides [.req, .heat, .faults] s (endLoad s) :=
  sameBesides_step (resumeLockout_frame _) (by decide) (sameBesides_mono (setReq_frame s _) (by decide))

theorem endLoad_mem (s : State) : (endLoad s).mem = s.mem := sameBesides_mem (endLoad_frame s) (by decide)

theorem sequenceEnds_cause (s : State) : (sequenceEnds s).mem.cause = s.mem.cause := by
  unfold sequenceEnds; split
  · simp only [State.setPlan_mem]; split
    · rfl
    · rw [endLoad_mem]; rfl
  · rfl

theorem taking_reload_cause (s : State) : (taking .reload takeReload s).mem.cause = s.mem.cause := by
  unfold taking; split <;> rfl

/-! ### Every command but a reset end keeps the reset cause -/

/-- A command whose event keeps the reset cause keeps it. -/
theorem cause_of_event {s t u : State} (k : u.mem.cause = s.mem.cause)
    (h : Host.Outcome.next (φ := Fault) (ρ := Refusal) (finish u) = .next t) : t.mem.cause = s.mem.cause := by
  cases h
  exact k

/-- A command whose event leaves the memory path as it was keeps the reset cause. -/
theorem cause_of_frame {l : List Block} {s t u : State} (k : sameBesides l s u)
    (h : Host.Outcome.next (φ := Fault) (ρ := Refusal) (finish u) = .next t) (hm : Block.mem ∉ l := by decide) :
    t.mem.cause = s.mem.cause := cause_of_event (congrArg MemoryPath.cause (sameBesides_mem k hm)) h

/-- Only a reset end sets the reset cause: the events of the memory path keep it, and the others leave the memory path alone (R21). -/
theorem exec_keeps_cause (c : Instr) (s t : State) (notEnd : ∀ w, c ≠ .resetEnd w) (h : exec c s = .next t) :
    t.mem.cause = s.mem.cause := by
  cases c with
  | resetEnd w => exact absurd rfl (notEnd w)
  | powerOnReset => exact cause_of_event (u := supplyLost .power s) rfl h
  | supplyReset => exact cause_of_event (u := supplyLost .supply s) rfl h
  | pinReset => exact cause_of_event (u := pinAsserted s) rfl h
  | hostTransactionBegin => exact cause_of_event (transactionBegin_cause s) h
  | writeEnable more heard => exact cause_of_event (onCommand_cause _ more noEffect s fun _ _ => rfl) h
  | writeDisable more heard => exact cause_of_event (onCommand_cause _ more noEffect s fun _ _ => rfl) h
  | readStatus more heard => exact cause_of_event (onCommand_cause _ more noEffect s fun _ _ => rfl) h
  | writeStatus more heard => exact cause_of_event (onCommand_cause _ more _ s (writeStatus_cause more)) h
  | read more heard => exact cause_of_event (onCommand_cause _ more _ s (readData_cause more)) h
  | write addr heard => exact cause_of_event (onCommand_cause _ addr (writeAddress addr) s fun _ _ => rfl) h
  | unrecognisedCommand first more =>
    refine cause_of_event ?_ h
    split
    · exact onCommand_cause first more _ s raiseDoubt_cause
    · rfl
  | landedByte value => exact cause_of_event (dataByte_cause value s) h
  | hostTransactionEnd bits => exact cause_of_event (transactionEnd_cause bits s) h
  | sequenceBusFree status contents => exact cause_of_event (sequenceRuns_cause status contents s) h
  | sequenceEnd => exact cause_of_event (sequenceEnds_cause s) h
  | reload => exact cause_of_event (taking_reload_cause s) h
  | planCheckCompletion => exact cause_of_frame (checkCompletion_frame s) h
  | runSecond => exact cause_of_frame (runSecond_frame s) h
  | minuteTick => exact cause_of_frame (minuteTick_frame s) h
  | overrideExpiry => exact cause_of_frame (overrideExpiry_frame s) h
  | setClock => exact cause_of_frame (taking_frame _ _ s (takeSetClock_frame s)) h
  | addOverride =>
    exact cause_of_frame (taking_frame _ _ s (withPlan_frame _ s (takeAddOverride_frame · s) (by decide) (by decide))) h
  | cancelOverride =>
    exact cause_of_frame (taking_frame _ _ s (withPlan_frame _ s (takeCancelOverride_frame · s) (by decide) (by decide))) h
  | clearLockout =>
    exact cause_of_frame (taking_frame _ _ s (withPlan_frame _ s (takeClearLockout_frame · s) (by decide) (by decide))) h
  | unknownKind => exact cause_of_frame (takeUnknown_frame s) h
  | pollTimerExpiry => exact cause_of_frame (pollTimer_frame s) h
  | pipeUnitDue => exact cause_of_frame (pipeUnitDue_frame s) h
  | echoMismatch place received =>
    exact cause_of_frame (inTransaction_frame _ s (compareEcho_frame place received · · s)) h
  | contentionPauseEnd => exact cause_of_frame (pauseEnd_frame s) h
  | noReply => exact cause_of_frame (inTransaction_frame _ s (invalidReply_frame · · s)) h
  | replyEnd chars => exact cause_of_frame (inTransaction_frame _ s (replyEnd_frame chars · · s)) h
  | noiseCharacter => exact cause_of_frame (noise_frame s) h
  | sampleEvent levels => exact cause_of_frame (sampleEvent_frame levels s) h
  | debouncedLevelChange input => exact cause_of_frame (debouncedChange_frame input s) h
  | flowLate => exact cause_of_frame (flowLate_frame s) h
  | flowNoFlow => exact cause_of_frame (flowNoFlow_frame s) h
  | cycleStart zone => exact cause_of_frame (cycleStart_frame zone s) h
  | endEvent zone => exact cause_of_frame (endEvent_frame zone s) h
  | waitingRequestExpiry zone => exact cause_of_frame (waitingExpiry_frame zone s) h
  | inrushEntryLeaves group => exact cause_of_frame (inrushLeaves_frame group s) h
  | movementEnd zone => exact cause_of_frame (movementEnd_frame zone s) h
  | prerunTimerExpiry => exact cause_of_frame (prerunExpires_frame s) h
  | postrunTimerExpiry => exact cause_of_frame (postrunExpires_frame s) h
  | lockoutPumpRunEnd => exact cause_of_frame (pumpRunEnds_frame s) h
  | retryTimerExpiry => exact cause_of_frame (retryExpires_frame s) h
  | minOffPassing => exact cause_of_frame (minOffPasses_frame s) h
  | minOnPassing => exact cause_of_frame (minOnPasses_frame s) h
  | ignitionEntryLeaves => exact cause_of_frame (ignitionLeaves_frame s) h
  | firingRun600s => exact cause_of_frame (firingRun_frame s) h
  | cylinderTimeout => exact cause_of_frame (cylinderTimeout_frame s) h
  | cylinderBlockExpiry => exact cause_of_frame (blockExpires_frame s) h
  | outdoorHoldExpiry => exact cause_of_frame (outdoorHoldExpires_frame s) h

/-! ### The device record shows the reset cause -/

/-- A byte that the fields of a record give is the record's byte there. -/
theorem imageRecord_getElem? {n i : Nat} {fields : List Byte} {x : Byte} (hi : i < n) (h : fields[i]? = some x) :
    (imageRecord n fields)[i]? = some x := by
  rw [imageRecord, List.getElem?_take_of_lt hi, List.getElem?_append_left (List.getElem?_eq_some_iff.1 h).1, h]

theorem deviceRecord_cause (s : State) : (deviceRecord s)[1]? = some (byteOf (resetNumber s.mem.cause)) := by
  refine imageRecord_getElem? (by decide) ?_
  simp only [imageByte, List.append_assoc, List.cons_append, List.nil_append, List.getElem?_cons_succ, List.getElem?_cons_zero]

/-- The device record is the first of the live image (R192). -/
theorem liveImage_cause (s : State) : (liveImage s)[1]? = some (byteOf (resetNumber s.mem.cause)) := by
  refine imageRecord_getElem? (by decide) ?_
  simp only [List.append_assoc]
  rw [List.getElem?_append_left (List.getElem?_eq_some_iff.1 (deviceRecord_cause s)).1, deviceRecord_cause]

/-- Settles O11: an induction on the resets that join, the frames of the commands, and the device record. -/
theorem resetCause : Obligations.ResetCause := by
  refine ⟨fun s kinds w outside some_kind => ?_, exec_keeps_cause, fun s => ?_⟩
  · obtain ⟨k, rest, rfl⟩ := List.exists_cons_of_ne_nil some_kind
    exact execAll_resets_from_none w k rest s outside
  · rw [liveImage_cause]
    cases s.mem.cause <;> rfl

end Sys2Proof.Machine

/-!
PROOFS of the statement about the plan store at the resets, at the load and at its end (R46).
-/

namespace Sys2Proof.Machine

/-! ## The plan store at the start of a reset -/

/-- The start of a reset leaves the plan store at its reset values, whatever its kind (R46). -/
theorem exec_resetCommand_plan (k : ResetKind) (s : State) :
    ∃ t, exec (resetCommand k) s = .next t ∧ t.plan = PlanStore.afterReset := by
  cases k <;> exact ⟨_, rfl, rfl⟩

theorem planStatus_of_no_plan {s : State} (h : s.plan.active = none) : planStatus s = .none := by
  simp [planStatus, h]

theorem activeGeneration_of_no_plan {s : State} (h : s.plan.active = none) : activeGeneration s = 0 := by
  simp only [activeGeneration, h]

/-! ### The live image shows the active generation -/

theorem deviceRecord_generation (s : State) : (deviceRecord s)[3]? = some (activeGeneration s) := by
  refine imageRecord_getElem? (by decide) ?_
  simp only [imageByte, List.append_assoc, List.cons_append, List.nil_append, List.getElem?_cons_succ, List.getElem?_cons_zero]

/-- The device record is the first of the live image (R192). -/
theorem liveImage_of_deviceRecord {s : State} {i : Nat} {x : Byte} (hi : i < 1024) (h : (deviceRecord s)[i]? = some x) :
    (liveImage s)[i]? = some x := by
  refine imageRecord_getElem? hi ?_
  simp only [List.append_assoc]
  rw [List.getElem?_append_left (List.getElem?_eq_some_iff.1 h).1, h]

theorem liveImage_generation (s : State) : (liveImage s)[3]? = some (activeGeneration s) :=
  liveImage_of_deviceRecord (by decide) (deviceRecord_generation s)

/-! ## The shadow after the load, and the check at its end -/

/-- Step 5 of R17 fills the shadow with the bytes it reads. -/
theorem sequenceRuns_shadow {s : State} (status : Byte) {contents : List Byte} (waiting : s.mem.seq = .waiting)
    (idle : s.mem.txn = .idle) (size : contents.length = 3328) :
    (sequenceRuns status contents s).plan.shadow = Shadow.ofBytes 0 contents := by
  simp [sequenceRuns, waiting, idle, List.take_of_length_le size.le]

/-- Step 6 of R17 starts a plan check, at the end of a load and of a reload (R29). -/
theorem sequenceEnds_check {s : State} (running : s.mem.seq = .running) : (sequenceEnds s).plan.check = .running := by
  simp only [sequenceEnds, running, if_true, State.setPlan_plan]

/-- Settles O9: the reset values of the plan store, the device record's generation, and the shadow that the load writes. -/
theorem planStoreAtEveryReset : Obligations.PlanStoreAtEveryReset := by
  refine ⟨fun s k => ?_, fun s status contents waiting idle size => ?_, fun s running => ?_⟩
  · obtain ⟨t, taken, plan⟩ := exec_resetCommand_plan k s
    have inactive : t.plan.active = none := by rw [plan]; rfl
    refine ⟨t, taken, inactive, planStatus_of_no_plan inactive, ?_, ?_⟩
    · rw [liveImage_generation, activeGeneration_of_no_plan inactive]
    · rw [plan]
      exact ⟨rfl, rfl, rfl, rfl, rfl, rfl, rfl⟩
  · refine ⟨_, rfl, fun o inShadow => ?_⟩
    rw [finish_plan, sequenceRuns_shadow status waiting idle size]
    simpa using Shadow.read_ofBytes contents 0 o (by omega) (by omega)
  · exact ⟨_, rfl, by rw [finish_plan, sequenceEnds_check running]⟩

end Sys2Proof.Machine

/-!
PROOFS of the statement about the id of a new override entry (R76).
-/

namespace Sys2Proof.Machine

/-! ## The ids that are tried, in their order -/

/-- The id tried at place `k`: the ids that follow the last assigned one, counting 1 to 255 and again from 1 (R76). -/
def triedId (o : OverrideList) (k : Nat) : Nat := (o.lastId + k) % 255 + 1

/-- Whether an entry carries the id tried at place `k`. -/
def TriedIdTaken (o : OverrideList) (k : Nat) : Prop := ∃ e ∈ o.entries, e.id = triedId o k

theorem triedId_pos (o : OverrideList) (k : Nat) : 1 ≤ triedId o k := Nat.le_add_left ..

theorem triedId_le (o : OverrideList) (k : Nat) : triedId o k ≤ 255 := Nat.mod_lt _ (by decide)

/-- One turn tries no id twice. -/
theorem triedId_injOn (o : OverrideList) {j k : Nat} (hj : j < 255) (hk : k < 255) (same : triedId o j = triedId o k) :
    j = k := by
  have : (o.lastId + j) % 255 = (o.lastId + k) % 255 := Nat.succ.inj same
  omega

/-- One turn tries 255 ids, so a shorter list of entries leaves one of them free. -/
theorem exists_triedId_free (o : OverrideList) (room : o.entries.length < 255) : ∃ k < 255, ¬ TriedIdTaken o k := by
  by_contra! taken
  have nodup : ((List.range 255).map (triedId o)).Nodup :=
    List.nodup_range.map_on fun j hj k hk => triedId_injOn o (List.mem_range.1 hj) (List.mem_range.1 hk)
  have carried : (List.range 255).map (triedId o) ⊆ o.entries.map (·.id) := by
    intro i tried
    obtain ⟨k, hk, rfl⟩ := List.mem_map.1 tried
    exact List.mem_map.2 (taken k (List.mem_range.1 hk))
  have length_le := (List.subperm_of_subset nodup carried).length_le
  simp only [List.length_map, List.length_range] at length_le
  omega

/-- The search for a new id answers the tried id at the first free place. -/
theorem nextId_eq_triedId {o : OverrideList} {k : Nat} (hk : k < 255) (free : ¬ TriedIdTaken o k)
    (first : ∀ j < k, TriedIdTaken o j) : nextId o = triedId o k := by
  have found : (List.range 255).find? ((fun i => !o.entries.any fun e => e.id == i) ∘ triedId o) = some k := by
    rw [List.find?_range_eq_some]
    refine ⟨?_, List.mem_range.2 hk, fun j hj => ?_⟩
    · simpa [TriedIdTaken] using free
    · simpa [TriedIdTaken] using first j hj
  change (((List.range 255).map (triedId o)).find? _).getD 0 = _
  rw [List.find?_map, found]
  rfl

/-- With room in the list, the new id is the tried id at a free place, and every place before it is taken. -/
theorem exists_nextId_eq_triedId (o : OverrideList) (room : o.entries.length < 255) :
    ∃ k < 255, nextId o = triedId o k ∧ ¬ TriedIdTaken o k ∧ ∀ j < k, TriedIdTaken o j := by
  classical
  have some_free := exists_triedId_free o room
  obtain ⟨hk, free⟩ := Nat.find_spec some_free
  have first : ∀ j < Nat.find some_free, TriedIdTaken o j := fun j hj =>
    not_not.1 fun free_j => Nat.find_min some_free hj ⟨hj.trans hk, free_j⟩
  exact ⟨_, hk, nextId_eq_triedId hk free first, free, first⟩

/-! ## The list at the resets -/

/-- The start of a reset empties the override list and its last assigned id is 0, whatever the reset's kind (R76). -/
theorem exec_resetCommand_ovr (k : ResetKind) (s : State) :
    ∃ t, exec (resetCommand k) s = .next t ∧ t.ovr = { entries := [], lastId := 0 } := by
  cases k <;> exact ⟨_, rfl, rfl⟩

/-- With no entries the id right after the last assigned one is free, so it is the new id. -/
theorem nextId_of_no_entries {o : OverrideList} (empty : o.entries = []) : nextId o = triedId o 0 :=
  nextId_eq_triedId (by decide) (by simp [TriedIdTaken, empty]) (by simp)

/-- Settles O38: the ids tried in one turn are distinct and more than the entries, so the search meets a first free one; at a reset
it starts from an empty list. -/
theorem newOverrideIdIsTheFirstFreeOne : Obligations.NewOverrideIdIsTheFirstFreeOne := by
  refine ⟨fun o few => ?_, fun s k => ?_⟩
  · obtain ⟨k, hk, new, free, first⟩ := exists_nextId_eq_triedId o (by omega)
    refine ⟨k, hk, new, fun e he carried => free ⟨e, he, carried.trans new⟩, first, ?_, ?_, fun _ _ _ _ => rfl⟩
    · rw [new]
      exact triedId_pos o k
    · rw [new]
      exact triedId_le o k
  · obtain ⟨t, taken, ovr⟩ := exec_resetCommand_ovr k s
    refine ⟨t, taken, by rw [ovr], by rw [ovr], ?_⟩
    rw [nextId_of_no_entries (by rw [ovr]), ovr]
    rfl

end Sys2Proof.Machine
